-- ==== Sys2Proof/Word.lean ====
section
/-! DEFINITION. The word types of the CJ318 and the per-phase triple.

What the manual handles as bits (bytes of the service port and of a share frame, cycle stamps and
microsecond counts that wrap, the event bits) is a bit vector. Codes, credits, shares and counts are
whole numbers: the manual computes with them exactly and then clamps. -/

namespace Sys2Proof

/-- One byte of the service port, of a share frame or of the parameter block. -/
abbrev Byte := BitVec 8

/-- A cycle number (R4) or a microsecond count (R3): 32 bits, wrapping, differences modulo 2^32. -/
abbrev Stamp := BitVec 32

/-- The three phases (section 0-6.6). -/
inductive Phase where
  | a | b | c
  deriving DecidableEq, Repr

/-- A quantity held once for each phase, written with the phase in brackets in the manual. -/
structure PerPhase (α : Type) where
  a : α
  b : α
  c : α
  deriving DecidableEq, Repr

/-- The value of phase `p`. -/
def PerPhase.get {α : Type} (v : PerPhase α) : Phase → α
  | .a => v.a
  | .b => v.b
  | .c => v.c

/-- The same value on every phase. -/
def PerPhase.all {α : Type} (x : α) : PerPhase α := ⟨x, x, x⟩

/-- Applies `f` to each phase's value, the phases alike and independently. -/
def PerPhase.map {α β : Type} (f : α → β) (v : PerPhase α) : PerPhase β := ⟨f v.a, f v.b, f v.c⟩

/-- Applies `f` phase by phase to two quantities. -/
def PerPhase.zip {α β γ : Type} (f : α → β → γ) (u : PerPhase α) (v : PerPhase β) : PerPhase γ :=
  ⟨f u.a v.a, f u.b v.b, f u.c v.c⟩

/-- Whether the test holds on some phase. -/
def PerPhase.any {α : Type} (f : α → Bool) (v : PerPhase α) : Bool := f v.a || f v.b || f v.c

end Sys2Proof
end

