-- ==== Sys2Proof/Syntax.lean ====
section
/-! DEFINITION. The commands of the CJ318: one constructor for each row of spec/opcode_table.json,
with the operands the row's rule gives it. -/

namespace Sys2Proof

/-- What the converters measure at one sample instant (R1), before the clamp to each channel's code
range (R2): the three grid voltages, the three injection currents, the DC link voltage, all in counts
of their channel, and the level of the bypass feedback input. -/
structure SenseInput where
  /-- Grid voltages x[A], x[B], x[C], in voltage counts. -/
  x : PerPhase Int
  /-- Injection currents i[A], i[B], i[C], in current counts. -/
  i : PerPhase Int
  /-- DC link voltage, in link counts. -/
  vdc : Int
  /-- The bypass feedback input is high (it then reads OPEN). -/
  feedbackHigh : Bool
  deriving DecidableEq, Repr

/-- A word of the template memory (R26): in a held cycle (0 the oldest), in the collecting area, or a
template value. -/
inductive TemplateWord where
  | held (index : Nat) (phase : Phase) (slot : Nat)
  | collecting (phase : Phase) (slot : Nat)
  | value (phase : Phase) (slot : Nat)
  deriving DecidableEq, Repr

/-- An error the outside world puts into a word of the template memory: a single-bit error, or a
double-bit error when `double` (R26 to R28; log 10). -/
structure TemplateUpset where
  word : TemplateWord
  double : Bool
  deriving DecidableEq, Repr

/-- An error in word `word` (0 to 28) of the parameter store (R151; log 10). -/
structure ParamUpset where
  word : Nat
  double : Bool
  deriving DecidableEq, Repr

/-- The parts of a sample event that the manual lets be taken in any order (log 8). -/
inductive SamplePart where
  /-- The template store acts on a double-bit error it has read (R28). -/
  | template
  /-- The detector tests for an own onset or passes one on (R35, R39). -/
  | detector
  /-- The module state controller tests the bypass feedback (R51, R53, R56, R58). -/
  | controller
  /-- The datapath computes the commands of the sample (R65 to R76). -/
  | chain
  /-- The datapath tests the currents against the trip level (R77). -/
  | overcurrent
  /-- The energy monitor takes the DC link code (R81, R83, R84). -/
  | energy
  deriving DecidableEq, Repr

/-- The blocks that do work at a cycle boundary, which may take it in any order (log 8). -/
inductive BoundaryPart where
  /-- The lock logic: the coast counter and the coast limit (R12, R13). -/
  | timebase
  /-- The template store judges the completed cycle (R18 to R22). -/
  | template
  /-- The detector: re-arming, the restore count, RIDDEN (R38, R41 to R43). -/
  | detector
  /-- The module state controller tests readiness (R48). -/
  | controller
  /-- The support planner (R85 to R95). -/
  | planner
  /-- The share unit (R101, R105 to R107, R110, R113). -/
  | share
  /-- The share line controller (R120, R121, R126). -/
  | line
  /-- The episode ring's own boundary work (R134). -/
  | episodes
  /-- The capture channels (R144). -/
  | capture
  /-- The fault monitor's parameter scrub (R151). -/
  | fault
  deriving DecidableEq, Repr

/-- The commands: one constructor for each row of the table. -/
inductive Instr where
  /-- COLD_RESET (R156). -/
  | coldReset
  /-- RESET_PIN_LOW (R16). -/
  | resetPinLow
  /-- RESET_RELEASE (R157): the levels of STN2..STN0 and CNT2..CNT0 as sampled. -/
  | resetRelease (station count : BitVec 3)
  /-- SAMPLE_EVENT (R1): what is measured, the memory errors that have struck since the last event,
  and the parts taken first. -/
  | sampleEvent (input : SenseInput) (upsets : List TemplateUpset) (order : List SamplePart)
  /-- CYCLE_BOUNDARY (R4): the memory errors that have struck, and the blocks that take it first. -/
  | cycleBoundary (upsets : List TemplateUpset) (paramUpsets : List ParamUpset) (order : List BoundaryPart)
  /-- RIDDEN (R42). -/
  | ridden
  /-- PEER_LOSS (R101) of the entry of a station number. -/
  | peerLoss (station : BitVec 3)
  /-- ISOLATION (R105). -/
  | isolation
  /-- ONSET_BARRED (R106). -/
  | onsetBarred
  /-- STATUS_THROTTLE (R121). -/
  | statusThrottle
  /-- SILENT_TIMER_EXPIRY (R126). -/
  | silentTimerExpiry
  /-- COAST_LIMIT_REACHED (R13). -/
  | coastLimitReached
  /-- BYPASS_OPEN_FAIL (R51). -/
  | bypassOpenFail
  /-- BYPASS_CLOSE_FAIL (R53). -/
  | bypassCloseFail
  /-- BYPASS_UNCOMMANDED (R56). -/
  | bypassUncommanded
  /-- UNCOMMANDED_HOLD_OFF_END (R56). -/
  | uncommandedHoldOffEnd
  /-- START_EXPIRED (R158). -/
  | startExpired
  /-- RELEASE_GAP_END (R163). -/
  | releaseGapEnd
  /-- BLOCK_COPY_END (R145). -/
  | blockCopyEnd
  /-- SHARE_FRAME_RECEIVED (R128): the bits sampled on the line, recessive true: those of a frame from its
  start bit, or what is left of one that the controller follows already (log 25). -/
  | shareFrameReceived (bits : List Bool)
  /-- LINE_IDLE (R116). -/
  | lineIdle
  /-- FRAME_BEGIN (R119). -/
  | frameBegin
  /-- LOST_ARBITRATION (R123) at a bit position of the frame, the start bit being position 0. -/
  | lostArbitration (position : Nat)
  /-- TRANSMIT_BIT_ERROR (R124) at a bit position of the frame, the start bit being position 0. -/
  | transmitBitError (position : Nat)
  /-- FRAME_COMPLETE (R125). -/
  | frameComplete
  /-- LINE_STUCK (R127). -/
  | lineStuck
  /-- STUCK_END (R127). -/
  | stuckEnd
  /-- CAPTURE_DATA_READ (R145): the declared length in bytes. -/
  | captureDataRead (length : Nat)
  /-- EPISODE_READ (R139): the declared length in bytes. -/
  | episodeRead (length : Nat)
  /-- EPISODE_SELECT_WRITE (R139). -/
  | episodeSelectWrite (value : BitVec 16)
  /-- EVENTS_WRITE (R162): the bits to clear. -/
  | eventsWrite (value : BitVec 16)
  /-- EVENT_ENABLE_WRITE (R162). -/
  | eventEnableWrite (value : BitVec 16)
  /-- FIRST_FAULT_CLEAR (R154): the data byte, of any value. -/
  | firstFaultClear (value : Byte)
  /-- PARAM_STAGE_WRITE (R160): PARAM_STAGE_HI when `high`, and the data bytes. -/
  | paramStageWrite (high : Bool) (data : List Byte)
  /-- PARAM_COMMIT (R161): the CRC byte. -/
  | paramCommit (crc : Byte)
  /-- ARM (R142) of channel 1 when `one`, else of channel 0. -/
  | arm (one : Bool) (kind : Byte) (count : BitVec 16) (first last : Byte)
  /-- DISARM (R146). -/
  | disarm (one : Bool)
  /-- SOFT (R146). -/
  | soft (one : Bool)
  /-- CAPTURE_SELECT_WRITE (section 12-2): byte 0, byte 1, and bytes 2 and 3. -/
  | captureSelectWrite (block spare : Byte) (offset : BitVec 16)
  /-- WITHDRAW (R59). -/
  | withdraw
  /-- RETURN (R60). -/
  | returnToService
  /-- WARM_RESET (R164). -/
  | warmReset
  /-- REGISTER_WRITE_OTHER (R159): item number, control byte and data bytes as clocked. -/
  | registerWriteOther (item control : Byte) (data : List Byte)
  /-- FRAME_ERROR (R159): the whole bytes clocked when the chip select rises. -/
  | frameError (bytes : List Byte)
  deriving DecidableEq, Repr

end Sys2Proof
end

