-- ==== Sys2Proof/Decode.lean ====
section
/-! DEFINITION. The commands that a word spells by the table's bits. No row of spec/opcode_table.json
gives bits (every row's "fields" is empty and none has "fixed"), so no word spells a command. The
encodings the manual does give, those of a share frame and of a service transaction, are operands of
commands and are read in Machine/Frame.lean and Machine/Port.lean. -/

namespace Sys2Proof

/-- The command a word spells by the table's bits: none, since no row of the table has any. -/
def decodeTableWord (_nbits _w : Nat) : Option Instr := none

end Sys2Proof
end

