-- ==== Sys2Proof/Config.lean ====
section
/-! DEFINITION. The constants of the part and the values its manual leaves open.

A value the manual leaves open is an `opaque` constant: nothing in Lean can prove what it is, so a
statement that holds here holds whatever the part does. -/

namespace Sys2Proof.Config

/-- Samples per cycle: slots 0 to 63 (section 0-6.2). -/
def slots : Nat := 64

/-- The free-running period before a commit, in microseconds (R7). -/
def freePeriod : Nat := 20000

/-- The opening bound of the bypass, in sample events (R50, R51). -/
def openBound : Nat := 48

/-- The closing bound of the bypass, in sample events (R53, R58). -/
def closeBound : Nat := 64

/-- The consecutive OPEN readings that report an uncommanded opening (R56). -/
def uncommandedLimit : Nat := 4

/-- The sample events after reset release for which the uncommanded-opening test is held off (R56). -/
def holdOffSamples : Nat := 64

/-- The trip level before a commit (R77). -/
def freeTripLevel : Nat := 32767

/-- Records the episode ring holds (R132). -/
def ringSize : Nat := 16

/-- Held cycles of a full template ring (R19). -/
def heldCycles : Nat := 4

/-- The bit errors after which a pending frame is dropped (R124). -/
def dropErrors : Nat := 4

/-- What the silent timer is set to, in cycles (R126). -/
def silentCycles : Nat := 100

/-- Consecutive dominant bits that make the line STUCK (R127). -/
def stuckBits : Nat := 24

/-- Consecutive recessive bits that end STUCK (R127). -/
def unstuckBits : Nat := 11

/-- Consecutive recessive bits after which a line that is not followed is idle (R116). -/
def idleBits : Nat := 7

/-- Blocks of the capture memory and words of a block (section 10-1). -/
def blocks : Nat := 40
/-- Words of a capture block (Table 10-1.1). -/
def blockWords : Nat := 384

/-- FREE VALUE (log 13). R147 says of a block copy abandoned by a warm reset that "its block keeps the
words already moved and its earlier contents in the rest"; the manual does not say which words those
are at a given instant. `wordMoved n w` says whether word `w` had been moved in the `n`-th abandoned
copy. -/
opaque wordMoved : Nat → Nat → Bool

end Sys2Proof.Config
end

