-- ==== Sys2Proof/Machine/Operands.lean ====
section
/-! DEFINITION. The forms in which the manual's operands and arithmetic appear: the clamp of a measured
quantity to its channel, the roundings and saturations of section 0-6.4, multi-byte fields, and the
order in which blocks take an event. -/

namespace Sys2Proof.Machine

/-- A voltage or current channel gives its limit code for an input beyond full scale (R2). -/
def senseCode (v : Int) : Int := max (-32768) (min 32767 v)

/-- The DC link channel gives 0 or 4095 for an input beyond full scale (R2). -/
def linkCode (v : Int) : Nat := (max 0 (min 4095 v)).toNat

/-- "Divided by 256, rounded": the floor of the value plus 128, divided by 256 (section 0-6.4). -/
def div256 (v : Int) : Int := (v + 128) / 256

/-- A difference above 32767 is taken as 32767 and one below −32767 as −32767 (R30, R68). -/
def saturate (v : Int) : Int := max (-32767) (min 32767 v)

/-- A value held within plus and minus a limit (R68, R71, R72). -/
def within (limit : Nat) (v : Int) : Int := max (-(limit : Int)) (min (limit : Int) v)

/-- The square of a code (R5, R30). -/
def square (v : Int) : Nat := v.natAbs * v.natAbs

/-- A count that increases by 1 up to a limit. -/
def countUp (limit n : Nat) : Nat := min limit (n + 1)

/-- An unsigned difference of stamps, saturating at 65535 (R52, R89). -/
def elapsedCycles (s : Stamp) : Nat := min 65535 s.toNat

/-- The signed difference of two microsecond counts, modulo 2^32 (R3). -/
def timeDiff (t u : Stamp) : Int := (t - u).toInt

/-- The low byte of a count. -/
def byteOf (n : Nat) : Byte := BitVec.ofNat 8 n

/-- A bit as a number. -/
def bit (b : Bool) : Nat := if b then 1 else 0

/-- Two bytes of a field, high byte first (section 0-6.6). -/
def twoBytes (n : Nat) : List Byte := [byteOf (n / 256), byteOf n]

/-- Four bytes of a field, high byte first. -/
def fourBytes (n : Nat) : List Byte :=
  [byteOf (n / 16777216), byteOf (n / 65536), byteOf (n / 256), byteOf n]

/-- The byte at an offset; 0 beyond the end. -/
def byteAt (bytes : List Byte) (k : Nat) : Nat := (bytes.getD k 0).toNat

/-- The two-byte field at an offset, high byte first. -/
def wordAt (bytes : List Byte) (k : Nat) : Nat := 256 * byteAt bytes k + byteAt bytes (k + 1)

/-- The order in which parts take an event: those named go first, as named; the others follow in the
order of `all` (log 8). Every part of `all` takes the event exactly once. -/
def takeOrder {α : Type} [DecidableEq α] (named all : List α) : List α :=
  (named ++ all).foldl (fun done p => if p ∈ done then done else done ++ [p]) []

/-- The parts of a sample event, in the order the chapters tell them. -/
def sampleParts : List SamplePart := [.template, .detector, .controller, .chain, .overcurrent, .energy]

/-- The blocks of a boundary, in the order the chapters tell them. -/
def boundaryParts : List BoundaryPart :=
  [.timebase, .template, .detector, .controller, .planner, .share, .line, .episodes, .capture, .fault]

end Sys2Proof.Machine
end

