-- ==== Sys2Proof/Machine/State.lean ====
section
/-! DEFINITION. The state of the CJ318, block by block (section 0-3), its values after a reset, and
the reasons a step can stop. -/

namespace Sys2Proof.Machine

/-- The station's service states (Table 4-1.1). -/
inductive ServiceState where
  | start | syncing | standby | injecting | withdrawn | lockout | idleOut
  deriving DecidableEq, Repr

/-- The states of the bypass switch (Table 4-4.1). -/
inductive BypassState where
  | closed | opening | opened | closing
  deriving DecidableEq, Repr

/-- The states of the lock logic (section 1-5). -/
inductive LockState where
  | search | locked | coast
  deriving DecidableEq, Repr

/-- The reasons for ending injection (R52). NONE is the absence of one. -/
inductive Cause where
  | ridden | energy | line | lock | template
  deriving DecidableEq, Repr

/-- The bands of support (R87). -/
inductive Band where
  | none | full | envelope | depleted
  deriving DecidableEq, Repr

/-- The line states of the share line controller (R126, R127). -/
inductive LineState where
  | active | warned | silent | stuck
  deriving DecidableEq, Repr

/-- The frame classes, most urgent first (Table 8-3.1, R119). -/
inductive FrameClass where
  | onset | restore | depart | share | status
  deriving DecidableEq, Repr

/-- The states of a peer entry (R98, R101). -/
inductive EntryState where
  | absent | present | lost | departed | mismatched | self
  deriving DecidableEq, Repr

/-- The outcomes of an episode record (Table 9-2.2). -/
inductive EpisodeOutcome where
  | opened | ridden | energy | line | lock | template | abortedFault | abortedReset | unserved
  deriving DecidableEq, Repr

/-- The states of a capture channel (section 10-1). -/
inductive ChannelState where
  | idle | armed | capturing
  deriving DecidableEq, Repr

/-- The completion statuses of a capture channel (section 10-1). -/
inductive CaptureStatus where
  | none | complete | regionFull | aborted
  deriving DecidableEq, Repr

/-- The trigger kinds of the capture channels (R143); `none` is the value 0 after a reset. -/
inductive TriggerKind where
  | none | onset | restore | peerLoss | lockLoss | fault | soft
  deriving DecidableEq, Repr

/-- The fault kinds (Table 11-1.1). -/
inductive FaultKind where
  | overcurrentTrip | bypassOpenFail | bypassCloseFail | bypassUncommanded | duplicateStation
  | parameterEcc | templateEcc | dcOvervoltage | lineStuck
  deriving DecidableEq, Repr

/-- The result codes of a service transaction (Table 12-2.2). -/
inductive Result where
  | ok | busy | refusedState | badArgument | crcMismatch | badParameter | notHeld | frameError | noItem
  deriving DecidableEq, Repr

/-- Whether a reset is held, and which (R156). -/
inductive ResetHold where
  | released | warm | cold
  deriving DecidableEq, Repr

/-! ## The parameter block (Table 12-3.1) -/

/-- The committed parameters. Every field is 0 until a commit (log 3). -/
structure Params where
  /-- Frequency code: 0 for 50 Hz, 1 for 60 Hz. -/
  frequency : Nat
  dOn : Nat
  dOff : Nat
  h : Nat
  c : Nat
  tol : Nat
  coastLimit : Nat
  mc : Nat
  mm : Nat
  kh : Nat
  iLim : Nat
  iTrip : Nat
  vmin : Nat
  vfull : Nat
  vover : Nat
  bFull : Nat
  bMin : Nat
  bShift : Nat
  wr : Nat
  l : Nat
  ps : Nat
  /-- The counted envelope segments: end cycle and fraction, in table order (section 6-7.1). -/
  envelope : List (Nat × Nat)
  deriving DecidableEq, Repr

/-- No block committed. -/
def Params.none : Params :=
  ⟨0, 0, 0, 0, 0, 0, 0, 0, 0, 0, 0, 0, 0, 0, 0, 0, 0, 0, 0, 0, 0, []⟩

/-! ## Sense interface and cycle timebase (chapter 1) -/

/-- The sense interface and the timebase. -/
structure Timebase where
  /-- The grid voltage codes held (R1). -/
  x : PerPhase Int
  /-- The injection current codes held (R1). -/
  i : PerPhase Int
  /-- The DC link code held (R1). -/
  vdc : Nat
  /-- The bypass feedback held reads OPEN (R1). -/
  feedbackOpen : Bool
  /-- The slot of the sample held: that of the most recent sample event (R1). -/
  slot : Nat
  /-- The cycle number of the sample held (R1). -/
  cycle : Stamp
  /-- The cycle counter: the number of the cycle in progress (R4). -/
  counter : Stamp
  /-- The slot index of the next sample; 64 once slot 63 has been taken and the boundary is due. -/
  nextSlot : Nat
  /-- The microsecond count at the most recent sample event (R3). -/
  time : Stamp
  /-- The reference instant from which the samples to come are spread (R3). -/
  refTime : Stamp
  /-- The slot of the reference instant (R3). -/
  refSlot : Nat
  /-- The time of slot 0 of the cycle in progress (R3). -/
  slot0 : Stamp
  /-- The time of the next slot 0 (R3). -/
  nextSlot0 : Stamp
  /-- The time of the slot 0 after the next, once an early in-window crossing has set it (R10). -/
  afterNext : Option Stamp
  /-- The period T in force, in microseconds. -/
  period : Nat
  lock : LockState
  /-- The confirm count (R8, R12). -/
  confirm : Nat
  /-- The coast counter (R12). -/
  coast : Nat
  /-- The last crossing time; it may be absent (section 1-5). -/
  lastCrossing : Option Stamp
  /-- The slot-0 time on which the open acceptance window is centred (R9). -/
  windowCentre : Stamp
  /-- The crossing recogniser is armed (R6). -/
  armed : Bool
  /-- The previous phase-A code (R6). -/
  prevCode : Int
  /-- The time of the previous phase-A sample (R6). -/
  prevTime : Stamp
  /-- The level accumulators of the cycle in progress (R5). -/
  acc : PerPhase Nat
  /-- The published level sums Lx (R5). -/
  lx : PerPhase Nat
  /-- The lock-held flag of the cycle in progress (R4). -/
  lockHeld : Bool
  deriving DecidableEq, Repr

/-- Table 1-7.1; the fields the table does not give are those of log 2 and log 4. -/
def Timebase.reset : Timebase where
  x := .all 0
  i := .all 0
  vdc := 0
  feedbackOpen := false
  slot := 0
  cycle := 0
  counter := 0
  nextSlot := 0
  time := 0
  refTime := 0
  refSlot := 0
  slot0 := 0
  nextSlot0 := 20000#32
  afterNext := none
  period := Config.freePeriod
  lock := .search
  confirm := 0
  coast := 0
  lastCrossing := none
  windowCentre := 0
  armed := false
  prevCode := 0
  prevTime := 0
  acc := .all 0
  lx := .all 0
  lockHeld := false

/-! ## Template store (chapter 2) -/

/-- A word of a waveform that holds an error not yet found by a read: single-bit, or double-bit. -/
structure WordError where
  phase : Phase
  slot : Nat
  double : Bool
  deriving DecidableEq, Repr

/-- 192 words of the template memory: 64 codes for each phase, and the words in error among them. -/
structure Waveform where
  codes : PerPhase (List Int)
  errors : List WordError
  deriving DecidableEq, Repr

/-- A waveform of zeros, encoded. -/
def Waveform.zero : Waveform := ⟨.all (List.replicate Config.slots 0), []⟩

/-- The template store. -/
structure Template where
  /-- The held cycles, oldest first (R19). -/
  ring : List Waveform
  /-- The collecting area (R17). -/
  collecting : Waveform
  /-- The template values t[p][k] (R21). -/
  values : Waveform
  /-- The template level sums Lt (R22). -/
  lt : PerPhase Nat
  injected : Bool
  disturbed : Bool
  emptied : Bool
  deriving DecidableEq, Repr

/-- Table 2-7.1. -/
def Template.reset : Template where
  ring := []
  collecting := .zero
  values := .zero
  lt := .all 0
  injected := false
  disturbed := false
  emptied := false

/-! ## Sag detector (chapter 3) -/

/-- The sag detector. -/
structure Detector where
  /-- The deviation windows: the last sixteen squared deviations, oldest first (R30). -/
  window : PerPhase (List Nat)
  /-- The metric Q[p] (R30). -/
  q : PerPhase Nat
  /-- The sag flags of the cycle in progress (R33). -/
  sag : PerPhase Bool
  /-- The published sag flags (R33). -/
  published : PerPhase Bool
  /-- The quiet flag of the cycle in progress (R34). -/
  quiet : Bool
  restoreCount : Nat
  restoreNotice : Bool
  /-- The onset disarm flag (R38). -/
  disarm : Bool
  qOn : Nat
  qOff : Nat
  qJoin : Nat
  deriving DecidableEq, Repr

/-- Sixteen zeros on every phase (R31). -/
def zeroWindow : PerPhase (List Nat) := .all (List.replicate 16 0)

/-- Table 3-5.1 (quiet flag and thresholds: log 3 and log 4). -/
def Detector.reset : Detector where
  window := zeroWindow
  q := .all 0
  sag := .all false
  published := .all false
  quiet := false
  restoreCount := 0
  restoreNotice := false
  disarm := false
  qOn := 0
  qOff := 0
  qJoin := 0

/-! ## Module state controller (chapter 4) -/

/-- The module state controller. -/
structure Controller where
  service : ServiceState
  bypass : BypassState
  /-- The bypass command output is open. -/
  commandOpen : Bool
  /-- The gate enable of the bridge (R61). -/
  gates : Bool
  /-- The charger permission (R62). -/
  charge : Bool
  /-- The bypass timer; 0 when idle or expired. -/
  timer : Nat
  /-- BYPASS_CLOSE_FAIL has been reported for the closing in progress (R58). -/
  closeFailed : Bool
  /-- The uncommanded count (R56). -/
  uncommanded : Nat
  /-- Sample events since reset release, up to 64 (R56). -/
  samples : Nat
  /-- The uncommanded-opening test is enabled (R56). -/
  watch : Bool
  /-- The re-onset pending flag (R54). -/
  reonset : Bool
  /-- The hand-back cause of the open episode; `none` is NONE (R52). -/
  cause : Option Cause
  deriving DecidableEq, Repr

/-- Table 4-9.1. -/
def Controller.reset : Controller where
  service := .start
  bypass := .closed
  commandOpen := false
  gates := false
  charge := false
  timer := 0
  closeFailed := false
  uncommanded := 0
  samples := 0
  watch := false
  reonset := false
  cause := none

/-! ## Injection datapath and modulator (chapter 5) -/

/-- The support plan of one phase: its gate and its target fraction f (R64). -/
structure PhasePlan where
  gate : Bool
  f : Nat
  deriving DecidableEq, Repr

/-- The four clamp flags (R78). -/
structure ClampFlags where
  cabinet : Bool
  saturation : Bool
  headroom : Bool
  foldBack : Bool
  deriving DecidableEq, Repr

/-- Every clamp flag clear. -/
def ClampFlags.clear : ClampFlags := ⟨false, false, false, false⟩

/-- The injection datapath and the modulator. -/
structure Datapath where
  /-- The support plan in force (R64). -/
  plan : PerPhase PhasePlan
  /-- The share in force (R64). -/
  share : Nat
  /-- The fold-back factors g[p] (R73). -/
  g : PerPhase Nat
  /-- The commands in force (R74). -/
  command : PerPhase Int
  /-- The duty of each bridge leg for the interval in progress, in 1024ths (R75). -/
  duty : PerPhase Int
  /-- The clamp flags of the cycle in progress (R78). -/
  flags : ClampFlags
  /-- The published clamp flags (R79). -/
  published : ClampFlags
  /-- The overcurrent flag (R77). -/
  overcurrent : Bool
  /-- The trip level (R77). -/
  tripLevel : Nat
  deriving DecidableEq, Repr

/-- Every gate off, f = 0 (Tables 5-8.1 and 6-9.1). -/
def planOff : PerPhase PhasePlan := .all ⟨false, 0⟩

/-- Table 5-8.1. -/
def Datapath.reset : Datapath where
  plan := planOff
  share := 0
  g := .all 256
  command := .all 0
  duty := .all 0
  flags := .clear
  published := .clear
  overcurrent := false
  tripLevel := Config.freeTripLevel

/-! ## Energy monitor and support planner (chapter 6) -/

/-- The energy monitor and the support planner. -/
structure Energy where
  /-- The energy credit U (R81). -/
  credit : Nat
  /-- The full credit U_full (R82). -/
  full : Nat
  /-- The CHG_EN output (R83). -/
  chgEn : Bool
  /-- The overvoltage flag (R84). -/
  overvoltage : Bool
  /-- The cabinet fraction φ (R85). -/
  phi : Nat
  /-- The band in force (R87). -/
  band : Band
  /-- The reclose depth r of the episode (R86). -/
  depth : Nat
  /-- The elapsed cycles e of the episode (R89). -/
  elapsed : Nat
  /-- The support plan last set (R92). -/
  plan : PerPhase PhasePlan
  deriving DecidableEq, Repr

/-- Table 6-9.1. -/
def Energy.reset : Energy where
  credit := 0
  full := 0
  chgEn := false
  overvoltage := false
  phi := 0
  band := .none
  depth := 0
  elapsed := 0
  plan := planOff

/-! ## Share unit (chapter 7) -/

/-- The refreshed mask of a peer entry (R99). -/
structure Refreshed where
  credit : Bool
  flags : Bool
  share : Bool
  episode : Bool
  deriving DecidableEq, Repr

/-- A peer entry (Table 7-1.1). -/
structure PeerEntry where
  state : EntryState
  /-- The fingerprint of the last frame matched. -/
  fpMatch : Bool
  reported : ServiceState
  /-- The last sequence number; it may be absent. -/
  seq : Option Nat
  credit : Nat
  flags : Byte
  share : Nat
  episode : Byte
  missed : Nat
  age : Nat
  refreshed : Refreshed
  deriving DecidableEq, Repr

/-- The entry of a station not heard (Table 7-11.1). -/
def PeerEntry.absent : PeerEntry :=
  ⟨.absent, false, .syncing, none, 0, 0, 0, 0, 0, 0, ⟨false, false, false, false⟩⟩

/-- The share unit. -/
structure ShareUnit where
  /-- The peer table: eight entries, by station number. -/
  peers : List PeerEntry
  /-- The peers of the member set in force, by station number, lowest first (R103). -/
  members : List Nat
  /-- The station itself is in the member set in force. -/
  selfMember : Bool
  /-- The member count last computed. -/
  count : Nat
  /-- The own share s (R107). -/
  share : Nat
  /-- The silence counter (R105). -/
  silence : Nat
  isolated : Bool
  /-- The own transmit age (R106). -/
  ownAge : Nat
  deriving DecidableEq, Repr

/-- The peer table at reset release: all ABSENT, the own slot SELF (Table 7-11.1). -/
def peersAtRelease (own : Nat) : List PeerEntry :=
  (List.replicate 8 PeerEntry.absent).set own { PeerEntry.absent with state := .self }

/-- The share s at reset release: 256 when SOLO, which a count strap value of 0 gives (Table 7-11.1). -/
def shareAtRelease (count : Nat) : Nat := if count = 0 then 256 else 0

/-- Table 7-11.1, for the straps read at the release. -/
def ShareUnit.atRelease (own count : Nat) : ShareUnit where
  peers := peersAtRelease own
  members := []
  selfMember := false
  count := 0
  share := shareAtRelease count
  silence := 0
  isolated := false
  ownAge := 0

/-! ## Share line controller (chapter 8) -/

/-- A share frame: its class, its sender's station number and its payload bytes (Table 8-3.1). -/
structure Frame where
  cls : FrameClass
  station : Nat
  payload : List Byte
  deriving DecidableEq, Repr

/-- A pending frame of the transmit queue: its bit-error count, and whether it was queued at a boundary
and so waits for the slot-0 sample event of the new cycle (R119). -/
structure Pending where
  errors : Nat
  waits : Bool
  deriving DecidableEq, Repr

/-- The transmit queue: at most one pending frame of each class (R119). -/
structure TxQueue where
  onset : Option Pending
  restore : Option Pending
  depart : Option Pending
  share : Option Pending
  status : Option Pending
  deriving DecidableEq, Repr

/-- The empty queue. -/
def TxQueue.empty : TxQueue := ⟨none, none, none, none, none⟩

/-- The frame tracking of the line controller (R116, section 8-1). -/
inductive Tracking where
  /-- Following no frame, the line not yet idle. -/
  | lost
  /-- The line is idle. -/
  | idle
  /-- Following a frame as a receiver: the bits of it sampled so far, from its start bit, which give its
  header and the position reached (section 8-1). -/
  | receiving (read : List Bool)
  /-- Transmitting a frame; `live` while its pending frame is still in the queue (log 17). -/
  | sending (frame : Frame) (live : Bool)
  deriving DecidableEq, Repr

/-- What the line controller may begin after an entry to LOCKOUT (R122). -/
inductive Mute where
  | free | departOnly | muted
  deriving DecidableEq, Repr

/-- The share line controller. -/
structure Line where
  queue : TxQueue
  /-- The sequence counter (R125). -/
  seq : Nat
  /-- The STATUS throttle counter (R121). -/
  throttle : Nat
  /-- The transmit error count TEC (R124 to R126). -/
  tec : Nat
  /-- The receive error count REC (R128). -/
  recErrors : Nat
  dropped : Nat
  state : LineState
  /-- The state STUCK will return to (R127). -/
  back : LineState
  /-- The silent timer; it runs while SILENT, or STUCK with SILENT to return to (R126, R127). -/
  silentTimer : Nat
  /-- The dominant run count (R127), held at 24. -/
  dominant : Nat
  /-- The recessive run count (R116, R127), held at 11. -/
  recessive : Nat
  tracking : Tracking
  mute : Mute
  deriving DecidableEq, Repr

/-- Table 8-10.1. -/
def Line.reset : Line where
  queue := .empty
  seq := 0
  throttle := 0
  tec := 0
  recErrors := 0
  dropped := 0
  state := .active
  back := .active
  silentTimer := 0
  dominant := 0
  recessive := 0
  tracking := .lost
  mute := .free

/-! ## Episode ring (chapter 9) -/

/-- The three clamp counts (R134). -/
structure ClampCounts where
  cabinet : Nat
  module : Nat
  foldBack : Nat
  deriving DecidableEq, Repr

/-- An episode record (Table 9-2.1). -/
structure Record where
  number : BitVec 16
  outcome : EpisodeOutcome
  /-- Presence bit 0: the hand-back elapsed cycle is present. -/
  hasElapsed : Bool
  /-- Presence bit 1: the fault kind is present. -/
  hasFault : Bool
  /-- Presence bit 2: the clamp block is present. -/
  hasClamps : Bool
  /-- The onset cycle stamp. -/
  stamp : Stamp
  slot : Nat
  /-- The trigger is PEER (otherwise OWN). -/
  peer : Bool
  /-- The phases involved. -/
  phases : PerPhase Bool
  depth : Nat
  minMembers : Nat
  duration : Nat
  full : Nat
  envelope : Nat
  energy : Nat
  peakShare : Nat
  /-- The minimum retained level of each phase. -/
  retained : PerPhase Nat
  disagreements : Nat
  /-- The hand-back elapsed cycle; 0 when absent. -/
  elapsed : Nat
  /-- The fault kind; absent unless presence bit 1 is set. -/
  fault : Option FaultKind
  /-- The clamp block; all 0 when absent. -/
  clamps : ClampCounts
  deriving DecidableEq, Repr

/-- What the ring keeps for the open record beside it (section 9-1). -/
structure OpenInfo where
  onsetCredit : Nat
  closing : Option EpisodeOutcome
  clamps : ClampCounts
  deriving DecidableEq, Repr

/-- The episode ring. -/
structure Episodes where
  /-- The records, oldest first. -/
  records : List Record
  /-- The open record's own values, if a record is open; the open record is the newest. -/
  current : Option OpenInfo
  /-- The next episode number. -/
  next : BitVec 16
  /-- The overwrite count (R132). -/
  overwrites : Nat
  /-- The selection of item EPISODE (R139). -/
  selection : BitVec 16
  deriving DecidableEq, Repr

/-- Table 9-9.1, cold reset. -/
def Episodes.reset : Episodes := ⟨[], none, 0, 0, 0xFFFF#16⟩

/-! ## Capture channels (chapter 10) -/

/-- A capture channel (section 10-1). -/
structure Channel where
  state : ChannelState
  kind : TriggerKind
  /-- The remaining count. -/
  count : Nat
  first : Nat
  last : Nat
  /-- The write block. -/
  write : Nat
  /-- The trigger cycle. -/
  cycle : Stamp
  status : CaptureStatus
  /-- The disarm pending flag. -/
  disarm : Bool
  deriving DecidableEq, Repr

/-- Table 10-5.1. -/
def Channel.reset : Channel := ⟨.idle, .none, 0, 0, 0, 0, 0, .none, false⟩

/-- The capture memory, by byte address: word `w` of block `b` lies at 2 × (384 × b + w), high byte
first. Addresses strictly rising, no byte listed that is 0; an unlisted byte reads 0, which is what a
cold reset leaves in every word (Table 10-5.1). -/
abbrev Memory := List Host.Cell

/-- The capture channels. -/
structure Capture where
  memory : Memory
  /-- The filling half of the live buffer, in the layout of Table 10-1.1 (R141). -/
  filling : List Int
  /-- The completed half of the live buffer (R141). -/
  completed : List Int
  ch0 : Channel
  ch1 : Channel
  /-- The copies asked for, the one in progress first: true for channel 1 (R145). -/
  copies : List Bool
  /-- The block selected through CAPTURE_SELECT. -/
  block : Nat
  /-- The word offset selected through CAPTURE_SELECT. -/
  offset : Nat
  deriving DecidableEq, Repr

/-- One half of the live buffer, all zeros. -/
def zeroBlock : List Int := List.replicate Config.blockWords 0

/-- Table 10-5.1, cold reset. -/
def Capture.reset : Capture where
  memory := []
  filling := zeroBlock
  completed := zeroBlock
  ch0 := .reset
  ch1 := .reset
  copies := []
  block := 0
  offset := 0

/-! ## Fault monitor (chapter 11) -/

/-- The first-fault record (Table 11-4.1); it is empty while it has no kind. -/
structure FirstFault where
  kind : Option FaultKind
  service : ServiceState
  cycle : Stamp
  slot : Nat
  phase : Option Phase
  detail : Option Nat
  /-- The later-fault count. -/
  later : Nat
  deriving DecidableEq, Repr

/-- The empty first-fault record: kind 0, phase 0xFF, other fields 0 (R154). -/
def FirstFault.empty : FirstFault := ⟨none, .start, 0, 0, none, none, 0⟩

/-- The fault monitor. -/
structure FaultMonitor where
  first : FirstFault
  /-- The ECC corrected count (R152). -/
  corrected : Nat
  /-- The parameter scrub flag (R151). -/
  scrub : Bool
  deriving DecidableEq, Repr

/-- Table 11-6.1, cold reset. -/
def FaultMonitor.reset : FaultMonitor := ⟨.empty, 0, false⟩

/-! ## Service port (chapter 12) -/

/-- The service port. -/
structure Port where
  /-- The 64-byte staging area. -/
  staging : List Byte
  /-- The 58 bytes of the parameter store. -/
  store : List Byte
  /-- The words of the parameter store in error, by word number; true for a double-bit error. -/
  storeErrors : List (Nat × Bool)
  /-- The parameters of the committed block, as the other blocks take them at the commit. -/
  params : Params
  fingerprint : Byte
  /-- The fingerprint is valid: a block has been committed since the reset. -/
  committed : Bool
  /-- The offset of the field that failed the last commit; 0xFF for none (R161). -/
  failedOffset : Byte
  /-- The pending bits of the sixteen events (R162). -/
  pending : BitVec 16
  /-- The enable bits of the sixteen events (R162). -/
  enable : BitVec 16
  /-- The last transaction result (R159). -/
  result : Result
  /-- The release gap is running (R163). -/
  gap : Bool
  /-- The start window is running (R158). -/
  window : Bool
  /-- The station number read from STN2..STN0 (R157). -/
  station : BitVec 3
  /-- The count strap value read from CNT2..CNT0 (R157). -/
  countStrap : BitVec 3
  /-- The bytes shifted out in the last transaction (Table 12-2.1). -/
  out : List Byte
  deriving DecidableEq, Repr

/-- Table 12-6.1, before the straps are read. -/
def Port.reset : Port where
  staging := List.replicate 64 0
  store := List.replicate 58 0
  storeErrors := []
  params := .none
  fingerprint := 0
  committed := false
  failedOffset := 0xFF#8
  pending := 1#16
  enable := 1#16
  result := .ok
  gap := false
  window := true
  station := 0
  countStrap := 0
  out := []

/-! ## The whole machine -/

/-- Where the model stands among the events of the timebase (the MODEL's own bookkeeping, log 8). -/
structure Instant where
  /-- The completed cycle of the last boundary, until the next sample event. -/
  boundary : Option Stamp
  /-- The completed cycle, while the work of that boundary is being taken. -/
  work : Option Stamp
  /-- The capture channels have taken their work of the last boundary (R144). -/
  captured : Bool
  /-- An episode was opened at the sample event being taken (R65). -/
  opened : Bool
  /-- A bypass transfer was begun at the sample event being taken (R50, R53). -/
  moved : Bool
  deriving DecidableEq, Repr

/-- No event is being taken. -/
def Instant.rest : Instant := ⟨none, none, false, false, false⟩

/-- The state of the CJ318. -/
structure State where
  held : ResetHold
  tb : Timebase
  tmpl : Template
  det : Detector
  ctl : Controller
  dp : Datapath
  en : Energy
  su : ShareUnit
  line : Line
  ep : Episodes
  cap : Capture
  fm : FaultMonitor
  port : Port
  /-- Where the model stands among the timebase's events (the MODEL's own field). -/
  inst : Instant
  /-- How many free values have been drawn (the MODEL's own field, log 13). -/
  draws : Nat
  /-- The commands that are waiting, first in, first out (the MODEL's own field, log 5). -/
  pending : List Instr
  deriving DecidableEq, Repr

/-- Why a step could stop the machine: no command of this part stops it. Every event it takes has an
effect or none, so the type has no constructor. -/
inductive Fault where
  deriving DecidableEq, Repr

/-- Why a command could be refused. -/
inductive Refusal where
  /-- Raised by an arm of exec whose command has no meaning yet; safe (no arm of this model does). -/
  | notModelled (mnemonic : String)
  deriving DecidableEq, Repr

/-- The machine right after a cold reset and its release, with the straps reading station number 0 and
count strap value 0 (log 1): Tables 1-7.1 to 12-6.1. -/
def State.reset : State where
  held := .released
  tb := .reset
  tmpl := .reset
  det := .reset
  ctl := .reset
  dp := .reset
  en := .reset
  su := .atRelease 0 0
  line := .reset
  ep := .reset
  cap := .reset
  fm := .reset
  port := .reset
  inst := .rest
  draws := 0
  pending := []

/-! ## Updates of one block -/

/-- Updates the timebase. -/
def State.modTb (s : State) (f : Timebase → Timebase) : State := { s with tb := f s.tb }
/-- Updates the template store. -/
def State.modTmpl (s : State) (f : Template → Template) : State := { s with tmpl := f s.tmpl }
/-- Updates the sag detector. -/
def State.modDet (s : State) (f : Detector → Detector) : State := { s with det := f s.det }
/-- Updates the module state controller. -/
def State.modCtl (s : State) (f : Controller → Controller) : State := { s with ctl := f s.ctl }
/-- Updates the injection datapath. -/
def State.modDp (s : State) (f : Datapath → Datapath) : State := { s with dp := f s.dp }
/-- Updates the energy monitor and planner. -/
def State.modEn (s : State) (f : Energy → Energy) : State := { s with en := f s.en }
/-- Updates the share unit. -/
def State.modSu (s : State) (f : ShareUnit → ShareUnit) : State := { s with su := f s.su }
/-- Updates the share line controller. -/
def State.modLine (s : State) (f : Line → Line) : State := { s with line := f s.line }
/-- Updates the episode ring. -/
def State.modEp (s : State) (f : Episodes → Episodes) : State := { s with ep := f s.ep }
/-- Updates the capture channels. -/
def State.modCap (s : State) (f : Capture → Capture) : State := { s with cap := f s.cap }
/-- Updates the fault monitor. -/
def State.modFm (s : State) (f : FaultMonitor → FaultMonitor) : State := { s with fm := f s.fm }
/-- Updates the service port. -/
def State.modPort (s : State) (f : Port → Port) : State := { s with port := f s.port }
/-- Updates the model's place among the timebase's events. -/
def State.modInst (s : State) (f : Instant → Instant) : State := { s with inst := f s.inst }

end Sys2Proof.Machine
end

