-- ==== Sys2Proof/Machine/Flags.lean ====
section
/-! DEFINITION. Every flag the manual computes: the sixteen events and NOTIFY, the template state, the
readiness, membership and onset-barring conditions, the charger and the charger permission, the clamp
flags' bytes, and the code numbers under which states are reported. -/

namespace Sys2Proof.Machine

/-- The sixteen events (Table 12-4.1). -/
inductive Event where
  | restarted | episodeOpened | episodeClosed | capture0End | capture1End | peerChange
  | fingerprintMismatch | lineState | isolationChange | lockChange | fault | eccCorrected
  | serviceFrameError | startExpired | dcOvervoltage | ringOverwrite
  deriving DecidableEq, Repr

/-- The bit of an event (Table 12-4.1). -/
def Event.bit : Event → BitVec 16
  | .restarted => 0x0001#16
  | .episodeOpened => 0x0002#16
  | .episodeClosed => 0x0004#16
  | .capture0End => 0x0008#16
  | .capture1End => 0x0010#16
  | .peerChange => 0x0020#16
  | .fingerprintMismatch => 0x0040#16
  | .lineState => 0x0080#16
  | .isolationChange => 0x0100#16
  | .lockChange => 0x0200#16
  | .fault => 0x0400#16
  | .eccCorrected => 0x0800#16
  | .serviceFrameError => 0x1000#16
  | .startExpired => 0x2000#16
  | .dcOvervoltage => 0x4000#16
  | .ringOverwrite => 0x8000#16

/-- Raising an event sets its pending bit, whether or not it is enabled (R162). -/
def State.raise (s : State) (e : Event) : State :=
  s.modPort fun p => { p with pending := p.pending ||| e.bit }

/-- The events that are both pending and enabled. -/
def State.attention (s : State) : BitVec 16 := s.port.pending &&& s.port.enable

/-- The NOTIFY output is driven low (R163): an event is pending and enabled, no release gap runs and no
reset is held. -/
def State.notifyLow (s : State) : Bool :=
  decide (s.held = .released) && !s.port.gap && decide (s.attention ≠ 0)

/-- The driver enable of the share line is asserted (R115, R130): from the start bit to the last bit of each
frame this station transmits, and at no other time. -/
def State.driverEnable (s : State) : Bool :=
  match s.line.tracking with
  | .sending _ _ => decide (s.held = .released)
  | .lost | .idle | .receiving _ => false

/-- The template states (R20). -/
inductive TemplateState where
  | empty | filling | valid
  deriving DecidableEq, Repr

/-- The template state follows from the count of held cycles alone (R20). -/
def State.templateState (s : State) : TemplateState :=
  if s.tmpl.ring.length = 0 then .empty
  else if s.tmpl.ring.length < Config.heldCycles then .filling
  else .valid

/-- The template state is VALID. -/
def State.valid (s : State) : Bool := decide (s.templateState = .valid)

/-- The expected module count N_exp (R157). -/
def State.nExp (s : State) : Nat := s.port.countStrap.toNat + 1

/-- A cabinet with N_exp = 1 (R157). -/
def State.solo (s : State) : Bool := decide (s.nExp = 1)

/-- The station's own number (R157). -/
def State.own (s : State) : Nat := s.port.station.toNat

/-- The station is onset-barred (R106). -/
def State.barred (s : State) : Bool :=
  decide (s.port.params.l ≤ s.su.ownAge) && !s.su.isolated && !s.solo

/-- The service state is INJECTING. -/
def State.injecting (s : State) : Bool := decide (s.ctl.service = .injecting)

/-- The station is ready (R48): template VALID and lock LOCKED or COAST. -/
def State.ready (s : State) : Bool := s.valid && decide (s.tb.lock ≠ .search)

/-- The charger permission of a service state (R62). -/
def ServiceState.charges : ServiceState → Bool
  | .syncing | .standby | .injecting | .withdrawn => true
  | .start | .lockout | .idleOut => false

/-- CHG_EN (R83): permitted, and the most recent Vdc below Vfull. -/
def State.chargerOn (s : State) : Bool := s.ctl.charge && decide (s.tb.vdc < s.port.params.vfull)

/-- A peer entry is a member (R103). -/
def PeerEntry.isMember (e : PeerEntry) : Bool :=
  decide (e.state = .present) && (decide (e.reported = .standby) || decide (e.reported = .injecting))

/-- The station is a member to itself (R103). -/
def State.selfMember (s : State) : Bool :=
  (decide (s.ctl.service = .standby) || decide (s.ctl.service = .injecting)) && !s.barred

/-- Some phase's metric is at or above a threshold. -/
def State.metricReaches (s : State) (threshold : Nat) : Bool :=
  s.det.q.any fun q => decide (threshold ≤ q)

/-- A record is open (section 9-1). -/
def State.recordOpen (s : State) : Bool := s.ep.current.isSome

/-- Three phase flags as bits 0 to 2. -/
def phaseBits (v : PerPhase Bool) : Nat := bit v.a + 2 * bit v.b + 4 * bit v.c

/-- Two sets of clamp flags together. -/
def ClampFlags.or (u v : ClampFlags) : ClampFlags :=
  ⟨u.cabinet || v.cabinet, u.saturation || v.saturation, u.headroom || v.headroom,
   u.foldBack || v.foldBack⟩

/-- The code of a service state (Table 12-2.4; those of a frame, Table 8-3.1, are the same). -/
def ServiceState.code : ServiceState → Nat
  | .start => 0 | .syncing => 1 | .standby => 2 | .injecting => 3
  | .withdrawn => 4 | .lockout => 5 | .idleOut => 6

/-- The service state of a frame's state code, 1 to 5 (Table 8-3.1). -/
def ServiceState.ofFrame : Nat → Option ServiceState
  | 1 => some .syncing | 2 => some .standby | 3 => some .injecting
  | 4 => some .withdrawn | 5 => some .lockout | _ => none

/-- The code of a lock state (Table 12-2.4). -/
def LockState.code : LockState → Nat
  | .search => 0 | .locked => 1 | .coast => 2

/-- The code of a template state (Table 12-2.4). -/
def TemplateState.code : TemplateState → Nat
  | .empty => 0 | .filling => 1 | .valid => 2

/-- The code of a band (Tables 8-3.1 and 12-2.4). -/
def Band.code : Band → Nat
  | .none => 0 | .full => 1 | .envelope => 2 | .depleted => 3

/-- The code of a bypass state (Table 12-2.4). -/
def BypassState.code : BypassState → Nat
  | .closed => 0 | .opening => 1 | .opened => 2 | .closing => 3

/-- The code of a line state (Table 12-2.4). -/
def LineState.code : LineState → Nat
  | .active => 0 | .warned => 1 | .silent => 2 | .stuck => 3

/-- The code of a peer entry's state (Table 12-2.5). -/
def EntryState.code : EntryState → Nat
  | .absent => 0 | .present => 1 | .lost => 2 | .departed => 3 | .mismatched => 4 | .self => 5

/-- The code of an episode outcome (Table 9-2.2). -/
def EpisodeOutcome.code : EpisodeOutcome → Nat
  | .opened => 0 | .ridden => 1 | .energy => 2 | .line => 3 | .lock => 4 | .template => 5
  | .abortedFault => 6 | .abortedReset => 7 | .unserved => 8

/-- The code of a fault kind (Table 11-1.1). -/
def FaultKind.code : FaultKind → Nat
  | .overcurrentTrip => 1 | .bypassOpenFail => 2 | .bypassCloseFail => 3 | .bypassUncommanded => 4
  | .duplicateStation => 5 | .parameterEcc => 6 | .templateEcc => 7 | .dcOvervoltage => 8
  | .lineStuck => 9

/-- The kinds whose response is TRIP (Table 11-1.1). -/
def FaultKind.trips : FaultKind → Bool
  | .overcurrentTrip | .bypassOpenFail | .bypassCloseFail | .bypassUncommanded
  | .duplicateStation | .parameterEcc => true
  | .templateEcc | .dcOvervoltage | .lineStuck => false

/-- The code of a result (Table 12-2.2). -/
def Result.code : Result → Nat
  | .ok => 0 | .busy => 1 | .refusedState => 2 | .badArgument => 3 | .crcMismatch => 4
  | .badParameter => 5 | .notHeld => 6 | .frameError => 7 | .noItem => 8

/-- The code of a channel state (section 12-2). -/
def ChannelState.code : ChannelState → Nat
  | .idle => 0 | .armed => 1 | .capturing => 2

/-- The code of a completion status (section 12-2). -/
def CaptureStatus.code : CaptureStatus → Nat
  | .none => 0 | .complete => 1 | .regionFull => 2 | .aborted => 3

/-- The code of a trigger kind (section 12-2). -/
def TriggerKind.code : TriggerKind → Nat
  | .none => 0 | .onset => 1 | .restore => 2 | .peerLoss => 3 | .lockLoss => 4 | .fault => 5
  | .soft => 6

/-- The trigger kind an ARM names; none for a code that names no kind (R142). -/
def TriggerKind.ofCode : Nat → Option TriggerKind
  | 1 => some .onset | 2 => some .restore | 3 => some .peerLoss | 4 => some .lockLoss
  | 5 => some .fault | 6 => some .soft | _ => Option.none

/-- The code of a phase in the first-fault record (Table 11-4.1): 0xFF when absent. -/
def phaseCode : Option Phase → Nat
  | some .a => 0 | some .b => 1 | some .c => 2 | none => 0xFF

/-- The closing outcome a hand-back cause names (R52). -/
def Cause.outcome : Cause → EpisodeOutcome
  | .ridden => .ridden | .energy => .energy | .line => .line | .lock => .lock
  | .template => .template

/-- The causes whose hand-back empties the template ring (R25). -/
def Cause.empties : Cause → Bool
  | .energy | .lock | .template => true
  | .ridden | .line => false

end Sys2Proof.Machine
end

