-- ==== Sys2Proof/Machine/Frame.lean ====
section
/-! DEFINITION. The share frame on the line: the CRC (R118), the bits of a frame (Table 8-3.1) and the
receive checks (R128). A bit is true when recessive, and the line rests recessive. -/

namespace Sys2Proof.Machine

/-- One shift of the CRC register (R118). -/
def crcShift (r : Byte) : Byte := if r.msb then (r <<< 1) ^^^ 0x07#8 else r <<< 1

/-- The register after one byte (R118). -/
def crcByte (r b : Byte) : Byte :=
  crcShift (crcShift (crcShift (crcShift (crcShift (crcShift (crcShift (crcShift (r ^^^ b))))))))

/-- The CRC-8 of some bytes (R118): register starting at 0xFF. -/
def crc8 (bytes : List Byte) : Byte := bytes.foldl crcByte 0xFF#8

/-- The class field (Table 8-3.1). -/
def FrameClass.code : FrameClass → Nat
  | .onset => 0 | .restore => 1 | .depart => 2 | .share => 3 | .status => 4

/-- The class of a class field; 5 to 7 are malformed. -/
def FrameClass.ofCode : Nat → Option FrameClass
  | 0 => some .onset | 1 => some .restore | 2 => some .depart | 3 => some .share
  | 4 => some .status | _ => none

/-- The length at which the part sends a class, the least the receive checks accept (Table 8-3.2). -/
def FrameClass.length : FrameClass → Nat
  | .onset => 5 | .restore => 5 | .depart => 2 | .share => 8 | .status => 4

/-- The two header bytes the CRC covers (R118). -/
def headerBytes (cls station length : Nat) : List Byte :=
  [byteOf (32 * cls + 4 * station), byteOf length]

/-- The CRC byte of a frame (R118). -/
def Frame.crc (f : Frame) : Byte :=
  crc8 (headerBytes f.cls.code f.station f.payload.length ++ f.payload)

/-- The `n` low bits of a number, most significant first (R115). -/
def bitsOf : Nat → Nat → List Bool
  | 0, _ => []
  | n + 1, v => v.testBit n :: bitsOf n v

/-- A byte and its spacer. -/
def byteBits (b : Byte) : List Bool := bitsOf 8 b.toNat ++ [true]

/-- A frame's bits, from the start bit to the last intermission bit (Table 8-3.1). -/
def Frame.bits (f : Frame) : List Bool :=
  false :: bitsOf 3 f.cls.code ++ bitsOf 3 f.station ++ bitsOf 4 f.payload.length ++ [true]
    ++ f.payload.flatMap byteBits ++ byteBits f.crc ++ List.replicate 7 true

/-- The number some bits spell, most significant first. -/
def numberOf (bits : List Bool) : Nat := bits.foldl (fun n b => 2 * n + bit b) 0

/-- The bit at a position of the frame; beyond the bits read so far, the level at which the line rests. -/
def lineBit (bits : List Bool) (k : Nat) : Bool := bits.getD k true

/-- The field of `n` bits from a position on. -/
def fieldAt (bits : List Bool) (k n : Nat) : Nat :=
  numberOf ((List.range n).map fun j => lineBit bits (k + j))

/-- The payload byte `j` of a frame, as received. -/
def payloadAt (bits : List Bool) (j : Nat) : Byte := byteOf (fieldAt bits (12 + 9 * j) 8)

/-- The form checks of R128 on a frame of `n` payload bytes: the start bit dominant; the header spacer,
every payload spacer, the CRC spacer, the end bits and the intermission bits recessive. -/
def formHolds (bits : List Bool) (n : Nat) : Bool :=
  !lineBit bits 0 && lineBit bits 11
    && (List.range (n + 1)).all (fun j => lineBit bits (20 + 9 * j))
    && (List.range 7).all (fun j => lineBit bits (21 + 9 * n + j))

/-- The receive checks of R128: the frame accepted, or none when a check fails. -/
def receiveFrame (bits : List Bool) : Option Frame :=
  let cls := fieldAt bits 1 3
  let station := fieldAt bits 4 3
  let n := fieldAt bits 7 4
  let payload := (List.range n).map (payloadAt bits)
  match FrameClass.ofCode cls with
  | none => none
  | some c =>
    if formHolds bits n && decide (2 ≤ n) && decide (n ≤ 8) && decide (c.length ≤ n)
        && (ServiceState.ofFrame (byteAt payload 1 % 16)).isSome
        && decide (crc8 (headerBytes cls station n ++ payload) = byteOf (fieldAt bits (12 + 9 * n) 8))
    then some ⟨c, station, payload⟩ else none

/-- A receive check of R128 is found to fail at the bit of a position: a class when its third bit is in, a
length, a state code and the CRC byte at their last bits, the start bit and the recessive bits at
themselves. -/
def failsAt (bits : List Bool) (k : Nat) : Bool :=
  let cls := fieldAt bits 1 3
  let n := fieldAt bits 7 4
  if k = 0 then lineBit bits 0
  else if k = 3 then (FrameClass.ofCode cls).isNone
  else if k = 10 then
    match FrameClass.ofCode cls with
    | some c => !(decide (2 ≤ n) && decide (n ≤ 8) && decide (c.length ≤ n))
    | none => true
  else if k = 28 then (ServiceState.ofFrame (fieldAt bits 25 4)).isNone
  else if k = 19 + 9 * n then
    decide (crc8 (headerBytes cls (fieldAt bits 4 3) n ++ (List.range n).map (payloadAt bits))
      ≠ byteOf (fieldAt bits (12 + 9 * n) 8))
  else
    (decide (k = 11) || (decide (20 ≤ k) && decide ((k - 20) % 9 = 0) && decide (k ≤ 20 + 9 * n))
      || decide (21 + 9 * n ≤ k)) && !lineBit bits k

/-- The bits make a frame whole, up to its fourth intermission bit (Table 8-3.1). -/
def frameEnds (bits : List Bool) : Bool := decide (bits.length = 28 + 9 * fieldAt bits 7 4)

/-- The flags byte of a frame this station sends (R117). -/
def State.flagsByte (s : State) : Byte :=
  byteOf (phaseBits s.det.published
    + 8 * bit (s.dp.published.saturation || s.dp.published.headroom)
    + 16 * bit s.su.isolated + 32 * s.en.band.code + 128 * bit (decide (1 ≤ s.det.restoreCount)))

/-- The low byte of the newest record's number, 0 when the ring holds none (R117). -/
def State.episodeByte (s : State) : Byte :=
  match s.ep.records.getLast? with
  | some r => byteOf r.number.toNat
  | none => 0

/-- The contents of a frame of a class, taken from their owners as they stand (R117). -/
def State.frameContents (s : State) (c : FrameClass) : Frame :=
  ⟨c, s.own,
   ([s.port.fingerprint, byteOf (16 * s.line.seq + s.ctl.service.code)] ++ twoBytes s.en.credit
     ++ [s.flagsByte] ++ twoBytes s.su.share ++ [s.episodeByte]).take c.length⟩

end Sys2Proof.Machine
end

