-- ==== Sys2Proof/Machine/Memory.lean ====
section
/-! DEFINITION. The capture memory (section 10-1) as canonical cells, and its words. -/

namespace Sys2Proof.Machine

/-- The byte at an address; an unlisted byte reads 0 (Table 10-5.1). -/
def Memory.read : Memory → Nat → Byte
  | [], _ => 0
  | (a, v) :: rest, k => if a = k then v else Memory.read rest k

/-- Writes a byte, keeping addresses strictly rising and no listed byte 0. -/
def Memory.write : Memory → Nat → Byte → Memory
  | [], k, w => if w = 0 then [] else [(k, w)]
  | (a, v) :: rest, k, w =>
    if a < k then (a, v) :: Memory.write rest k w
    else if a = k then (if w = 0 then rest else (k, w) :: rest)
    else if w = 0 then (a, v) :: rest else (k, w) :: (a, v) :: rest

/-- The canonical form: addresses strictly rising from `low`, no listed byte 0. -/
def Memory.wfFrom : Nat → Memory → Bool
  | _, [] => true
  | low, (a, v) :: rest => decide (low ≤ a) && decide (v ≠ 0) && Memory.wfFrom (a + 1) rest

/-- The memory is in canonical form. -/
def Memory.wf (m : Memory) : Bool := Memory.wfFrom 0 m

/-- The byte address of word `w` of block `b` (section 10-1). -/
def wordAddress (b w : Nat) : Nat := 2 * (Config.blockWords * b + w)

/-- The high byte of a signed 16-bit word. -/
def highByte (v : Int) : Byte := (BitVec.ofInt 16 v).extractLsb' 8 8
/-- The low byte of a signed 16-bit word. -/
def lowByte (v : Int) : Byte := (BitVec.ofInt 16 v).extractLsb' 0 8

/-- Writes a word, high byte first. -/
def Memory.writeWord (m : Memory) (address : Nat) (v : Int) : Memory :=
  (m.write address (highByte v)).write (address + 1) (lowByte v)

/-- Writes the words of a list from word `w` of block `b` on, those for which `moved` holds. -/
def Memory.writeWords (moved : Nat → Bool) (b : Nat) : Nat → List Int → Memory → Memory
  | _, [], m => m
  | w, v :: rest, m =>
    Memory.writeWords moved b (w + 1) rest
      (if moved w then m.writeWord (wordAddress b w) v else m)

/-- A whole block copy: the 384 words of a half of the live buffer into block `b` (R145). -/
def Memory.copyBlock (m : Memory) (b : Nat) (words : List Int) : Memory :=
  Memory.writeWords (fun _ => true) b 0 words m

/-- The bytes of a word, high byte first. -/
def Memory.wordBytes (m : Memory) (b w : Nat) : List Byte :=
  [m.read (wordAddress b w), m.read (wordAddress b w + 1)]

end Sys2Proof.Machine
end

