-- ==== Sys2Proof/Machine/Parameters.lean ====
section
/-! DEFINITION. The parameter block (Table 12-3.1): its fields, their validation in order of offset
(R161), and what the blocks derive from it (R32, R82, section 1-5). -/

namespace Sys2Proof.Machine

/-- The end cycle and the fraction of segment `j` of a block. -/
def segmentAt (b : List Byte) (j : Nat) : Nat × Nat := (wordAt b (34 + 4 * j), wordAt b (36 + 4 * j))

/-- The parameters a block of 58 bytes holds. -/
def Params.ofBlock (b : List Byte) : Params where
  frequency := byteAt b 0
  dOn := wordAt b 1
  dOff := wordAt b 3
  h := byteAt b 5
  c := byteAt b 6
  tol := byteAt b 7
  coastLimit := wordAt b 8
  mc := wordAt b 10
  mm := wordAt b 12
  kh := wordAt b 14
  iLim := wordAt b 16
  iTrip := wordAt b 18
  vmin := wordAt b 20
  vfull := wordAt b 22
  vover := wordAt b 24
  bFull := byteAt b 26
  bMin := byteAt b 27
  bShift := byteAt b 28
  wr := wordAt b 29
  l := byteAt b 31
  ps := byteAt b 32
  envelope := (List.range (byteAt b 33)).map (segmentAt b)

/-- The full credit U_full (R82). -/
def Params.fullCredit (p : Params) : Nat := (p.vfull * p.vfull - p.vmin * p.vmin) / 256

/-- The nominal period T_nom of the frequency code, in microseconds (R7). -/
def Params.nominalPeriod (p : Params) : Nat := if p.frequency = 0 then 20000 else 16667

/-- The half-width of the good range of SEARCH (section 1-5). -/
def Params.goodRange (p : Params) : Nat := p.nominalPeriod * p.tol / 1000

/-- A value lies within its bounds. -/
def inRange (low high v : Nat) : Bool := decide (low ≤ v) && decide (v ≤ high)

/-- The tests of the counted segments from segment `j` on, the end before it being `before` (R161): the
end cycle of a segment, then its fraction. -/
def segmentChecks : List (Nat × Nat) → Nat → Nat → List (Nat × Bool)
  | [], _, _ => []
  | (e, f) :: rest, j, before =>
    (34 + 4 * j, decide (before < e) && (!rest.isEmpty || decide (e = 65535)))
      :: (36 + 4 * j, decide (f ≤ 256)) :: segmentChecks rest (j + 1) e

/-- The tests of the fields in order of offset, each with the field's offset (R161, Table 12-3.1). -/
def Params.checks (p : Params) (segments : Nat) : List (Nat × Bool) :=
  [(0, inRange 0 1 p.frequency), (1, inRange 256 8192 p.dOn), (3, inRange 128 p.dOn p.dOff),
   (5, inRange 1 20 p.h), (6, inRange 2 7 p.c), (7, inRange 5 50 p.tol),
   (8, inRange 10 500 p.coastLimit), (10, inRange 1024 16384 p.mc), (12, inRange 256 16384 p.mm),
   (14, inRange 256 8192 p.kh), (16, inRange 100 32000 p.iLim),
   (18, inRange (p.iLim + 1) 32767 p.iTrip), (20, inRange 0 4094 p.vmin),
   (22, inRange (p.vmin + 1) 4095 p.vfull && decide (1024 ≤ p.fullCredit)),
   (24, inRange p.vfull 4095 p.vover), (26, inRange 1 255 p.bFull), (27, inRange 0 p.bFull p.bMin),
   (28, inRange 0 64 p.bShift), (29, inRange 0 3000 p.wr), (31, inRange 5 50 p.l),
   (32, inRange 1 (p.l / 3) p.ps), (33, inRange 1 6 segments)]
    ++ segmentChecks p.envelope 0 0

/-- The offset of the first field of a block that fails, if any (R161). -/
def failedField (b : List Byte) : Option Nat :=
  (((Params.ofBlock b).checks (byteAt b 33)).find? fun c => !c.2).map Prod.fst

end Sys2Proof.Machine
end

