-- ==== Sys2Proof/Machine/Ops.lean ====
section
/-! DEFINITION. The named operations the blocks share: capture triggers and copies, the transmit queue,
the share, the service state, the template ring, the episode records, the fault monitor's report, the
trip, the hand-back and the opening of an episode. -/

namespace Sys2Proof.Machine

/-! ## Capture triggers and block copies (R143 to R145) -/

/-- The channel a flag names: channel 1 when true. -/
def Capture.channel (c : Capture) (one : Bool) : Channel := if one then c.ch1 else c.ch0

/-- Updates a channel. -/
def Capture.modChannel (c : Capture) (one : Bool) (f : Channel → Channel) : Capture :=
  if one then { c with ch1 := f c.ch1 } else { c with ch0 := f c.ch0 }

/-- The end event of a channel (R144). -/
def endEvent (one : Bool) : Event := if one then .capture1End else .capture0End

/-- A channel enters IDLE with a status, raising its end event (R144). -/
def State.endCapture (s : State) (one : Bool) (status : CaptureStatus) : State :=
  (s.modCap fun c => c.modChannel one fun ch =>
    { ch with state := .idle, status := status, disarm := false }).raise (endEvent one)

/-- A CAPTURING channel asks the copier for a copy of the completed cycle (R144): made when its write
block lies within its region; otherwise the channel ends REGION_FULL. Copies are made in the order asked
for: channel 0 asks first in the capture work, but a channel 0 made CAPTURING by a later trigger of the
same boundary waits for the copy of channel 1 that has begun (R145, the model's choice: log 35). -/
def State.askCopy (s : State) (one : Bool) : State :=
  if (s.cap.channel one).write ≤ (s.cap.channel one).last then
    s.modCap fun c => { c with copies := c.copies ++ [one] }
  else s.endCapture one .regionFull

/-- The channel is ARMED for a trigger kind. -/
def Channel.awaits (ch : Channel) (k : TriggerKind) : Bool :=
  decide (ch.state = .armed) && decide (ch.kind = k)

/-- The trigger cycle of a trigger taken now (R143): the completed cycle in a boundary's work, otherwise
the next cycle to reach its boundary. -/
def State.triggerCycle (s : State) : Stamp := s.inst.work.getD s.tb.counter

/-- Gives a trigger to one channel (R143). A channel made CAPTURING at a boundary whose capture work has
been taken asks for the copy of that boundary at the trigger itself (R144). -/
def State.triggerOne (s : State) (k : TriggerKind) (one : Bool) : State :=
  if (s.cap.channel one).awaits k then
    let s1 := s.modCap fun c => c.modChannel one fun ch =>
      { ch with state := .capturing, cycle := s.triggerCycle }
    if s.inst.work.isSome && s.inst.captured then s1.askCopy one else s1
  else s

/-- Gives a trigger kind to both channels (R143). -/
def State.giveTrigger (s : State) (k : TriggerKind) : State := (s.triggerOne k false).triggerOne k true

/-! ## The transmit queue (R119, R120, R122) -/

/-- The pending frame of a class. -/
def TxQueue.get (q : TxQueue) : FrameClass → Option Pending
  | .onset => q.onset | .restore => q.restore | .depart => q.depart | .share => q.share
  | .status => q.status

/-- Sets the pending frame of a class. -/
def TxQueue.set (q : TxQueue) (p : Option Pending) : FrameClass → TxQueue
  | .onset => { q with onset := p } | .restore => { q with restore := p }
  | .depart => { q with depart := p } | .share => { q with share := p }
  | .status => { q with status := p }

/-- Queues a frame (R119): nothing changes when its class is pending. A frame queued in a boundary's work
is eligible from the next slot-0 sample event. -/
def State.enqueue (s : State) (c : FrameClass) : State :=
  if (s.line.queue.get c).isSome then s
  else s.modLine fun l => { l with queue := l.queue.set (some ⟨0, s.inst.work.isSome⟩) c }

/-- The tracking once the pending frame of a class has left the queue: a transmission of it runs on
without a pending frame behind it (R122, log 17). -/
def Tracking.orphan (t : Tracking) (c : FrameClass) : Tracking :=
  match t with
  | .sending f live => .sending f (live && decide (f.cls ≠ c))
  | .lost => .lost
  | .idle => .idle
  | .receiving read => .receiving read

/-- Removes the pending frame of a class without sending it (R122). -/
def Line.removeQueued (l : Line) (c : FrameClass) : Line :=
  { l with queue := l.queue.set none c, tracking := l.tracking.orphan c }

/-- Removes the pending frame of a class without sending it (R122). -/
def State.removeQueued (s : State) (c : FrameClass) : State := s.modLine fun l => l.removeQueued c

/-! ## Membership and the share (R103, R107, R108) -/

/-- The entry of a station number. -/
def ShareUnit.entry (u : ShareUnit) (k : Nat) : PeerEntry := u.peers.getD k .absent

/-- The member peers, by station number, lowest first (R103). -/
def ShareUnit.memberPeers (u : ShareUnit) : List Nat :=
  (List.range 8).filter fun k => (u.entry k).isMember

/-- The sum of the credits some peers' entries hold. -/
def ShareUnit.creditSum (u : ShareUnit) (ks : List Nat) : Nat :=
  (ks.map fun k => (u.entry k).credit).sum

/-- The cumulative share of R108, from the credits below this station, its own, and those above. -/
def cumulativeShare (before own above : Nat) : Nat :=
  let w := before + own + above
  if w = 0 then 0 else 256 * (before + own) / w - 256 * before / w

/-- The cumulative share of this station on its peer table (R108). -/
def State.cumulative (s : State) : Nat :=
  let ks := s.su.memberPeers
  cumulativeShare (s.su.creditSum (ks.filter fun k => decide (k < s.own))) s.en.credit
    (s.su.creditSum (ks.filter fun k => decide (s.own < k)))

/-- The share by the first case of R107 that applies. -/
def State.shareNow (s : State) : Nat :=
  if s.solo then 256
  else if s.su.isolated then 256 / s.nExp
  else if !s.selfMember then 0
  else s.cumulative

/-- The share unit finds the member set and sets the share, and hands it to the datapath (R107, R109). -/
def State.setShare (s : State) : State :=
  let share := s.shareNow
  let ks := s.su.memberPeers
  (s.modSu fun u => { u with
      members := ks, selfMember := s.selfMember, count := ks.length + bit s.selfMember,
      share := share }).modDp fun d => { d with share := share }

/-! ## Command, service state and template ring -/

/-- The command in force of each phase becomes 0 (R66). -/
def State.cutCommand (s : State) : State :=
  s.modDp fun d => { d with command := .all 0, duty := .all 0 }

/-- The charger permission and CHG_EN follow the service state (R62, R83). -/
def State.setCharge (s : State) : State :=
  let s1 := s.modCtl fun c => { c with charge := c.service.charges }
  s1.modEn fun e => { e with chgEn := s1.chargerOn }

/-- Leaving INJECTING: the restore count and notice are cleared (R44), and a pending ONSET or RESTORE
frame is removed (R122). -/
def State.leaveInjecting (s : State) : State :=
  ((s.modDet fun d => { d with restoreCount := 0, restoreNotice := false }).removeQueued .onset).removeQueued
    .restore

/-- A change of service state with what follows from it in other blocks: leaving INJECTING (R44, R122),
the charger (R62), and the share at the entry into STANDBY from SYNCING (R107). -/
def State.setService (s : State) (t : ServiceState) : State :=
  let s1 := if s.injecting && decide (t ≠ .injecting) then s.leaveInjecting else s
  let s2 := (s1.modCtl fun c => { c with service := t }).setCharge
  if decide (s.ctl.service = .syncing) && decide (t = .standby) then s2.setShare else s2

/-- The readiness test of SYNCING (R48). -/
def State.testReady (s : State) : State :=
  if decide (s.ctl.service = .syncing) && s.ready then s.setService .standby else s

/-- The deviation windows are set to zeros and every Q to 0 (R31). -/
def State.zeroMetric (s : State) : State :=
  s.modDet fun d => { d with window := zeroWindow, q := .all 0 }

/-- Emptying the template ring (R23), and what its leaving VALID brings: the windows (R31), the command
(R66), and STANDBY to SYNCING (R49). -/
def State.emptyRing (s : State) : State :=
  let s1 := s.modTmpl fun t => { t with ring := [], emptied := true }
  if s.valid then
    let s2 := s1.zeroMetric.cutCommand
    if s2.ctl.service = .standby then s2.setService .syncing else s2
  else s1

/-! ## Episode records (chapter 9) -/

/-- Updates the last element of a list. -/
def modLast {α : Type} (f : α → α) : List α → List α
  | [] => []
  | [x] => [f x]
  | x :: y :: rest => x :: modLast f (y :: rest)

/-- Updates the newest record. -/
def State.modRecord (s : State) (f : Record → Record) : State :=
  s.modEp fun e => { e with records := modLast f e.records }

/-- Updates the newest record if it is open; a contribution handed over when no record is open is
discarded (R134). -/
def State.contribute (s : State) (f : Record → Record) : State :=
  if s.recordOpen then s.modRecord f else s

/-- An onset as the detector hands it over (R35, R36): its trigger, cycle number, slot and sag flags. -/
structure Onset where
  peer : Bool
  cycle : Stamp
  slot : Nat
  phases : PerPhase Bool
  deriving DecidableEq, Repr

/-- The reclose depth: the records whose onset stamp lies W_r cycles or less before a cycle (R138). -/
def recloseDepth (records : List Record) (wr : Nat) (cycle : Stamp) : Nat :=
  (records.filter fun r => decide ((cycle - r.stamp).toNat ≤ wr)).length

/-- A full ring drops its oldest record (R132). -/
def State.makeRoom (s : State) : State :=
  if Config.ringSize ≤ s.ep.records.length then
    (s.modEp fun e => { e with
      records := e.records.tail, overwrites := countUp 65535 e.overwrites }).raise .ringOverwrite
  else s

/-- A record as it begins at an onset (R131). -/
def State.newRecord (s : State) (o : Onset) : Record where
  number := s.ep.next
  outcome := .opened
  hasElapsed := false
  hasFault := false
  hasClamps := false
  stamp := o.cycle
  slot := o.slot
  peer := o.peer
  phases := o.phases
  depth := recloseDepth s.ep.records s.port.params.wr o.cycle
  minMembers := s.su.count
  duration := 0
  full := 0
  envelope := 0
  energy := 0
  peakShare := s.su.share
  retained := .all 255
  disagreements := 0
  elapsed := 0
  fault := none
  clamps := ⟨0, 0, 0⟩

/-- Opens a record (R131, R132): the oldest removed from a full ring, the new one placed as the newest,
EPISODE_OPENED raised. -/
def State.openRecord (s : State) (o : Onset) : State :=
  let s1 := s.makeRoom
  (s1.modEp fun e => { e with
      records := e.records ++ [s1.newRecord o]
      next := e.next + 1
      current := some ⟨s1.en.credit, none, ⟨0, 0, 0⟩⟩ }).raise .episodeOpened

/-- The energy used by the open record: the onset credit minus the own U, not below 0 (R136). -/
def State.energyUsed (s : State) : Nat :=
  match s.ep.current with
  | some o => o.onsetCredit - s.en.credit
  | none => 0

/-- Closes the open record with an outcome, forming its energy used (R136, R137, R140). -/
def State.closeQuietly (s : State) (out : EpisodeOutcome) : State :=
  if s.recordOpen then
    (s.modRecord fun r => { r with outcome := out, energy := s.energyUsed }).modEp fun e =>
      { e with current := none }
  else s

/-- Closes the open record and raises EPISODE_CLOSED (R136). -/
def State.closeRecord (s : State) (out : EpisodeOutcome) : State :=
  if s.recordOpen then (s.closeQuietly out).raise .episodeClosed else s

/-- The outcome a confirmed close writes: the closing outcome taken at hand-back (R55, R136). -/
def State.closingOutcome (s : State) : EpisodeOutcome :=
  match s.ep.current with
  | some o => o.closing.getD .opened
  | none => .opened

/-- Opens and closes a record at once as UNSERVED (R133). -/
def State.unservedRecord (s : State) (o : Onset) : State := (s.openRecord o).closeRecord .unserved

/-! ## Hand-back (R52, R53, R135) -/

/-- The hand-back elapsed cycle of the open record (R52). -/
def State.handbackElapsed (s : State) : Nat :=
  match s.ep.records.getLast? with
  | some r =>
    match s.inst.work with
    | some n => elapsedCycles (n - r.stamp + 1)
    | none => elapsedCycles (s.tb.counter - r.stamp)
  | none => 0

/-- The bypass goes to CLOSING with the closing bound, the command at 0 (R53, R58, R66). -/
def State.beginClosing (s : State) : State :=
  ((s.modCtl fun c => { c with
      bypass := .closing, commandOpen := false, timer := Config.closeBound, closeFailed := false }).modInst
    fun i => { i with moved := true }).cutCommand

/-- What the ring takes at a hand-back (R135). -/
def State.recordHandback (s : State) (c : Cause) : State :=
  if s.recordOpen then
    (s.modRecord fun r => { r with hasElapsed := true, elapsed := s.handbackElapsed }).modEp fun e =>
      { e with current := e.current.map fun o => { o with closing := some c.outcome } }
  else s

/-- A hand-back begins with a cause (R52). -/
def State.beginHandback (s : State) (c : Cause) : State :=
  let s1 := (s.modCtl fun k => { k with cause := some c }).recordHandback c
  let s2 := s1.beginClosing
  let s3 := if c = .ridden then s2.enqueue .restore else s2
  let s4 := if c.empties then s3.emptyRing else s3
  s4.giveTrigger .restore

/-- The controller takes a hand-back cause (R52): it begins hand-back in INJECTING with the bypass
OPENING or OPEN, and has no effect otherwise. -/
def State.takeCause (s : State) (c : Cause) : State :=
  if s.injecting && (decide (s.ctl.bypass = .opening) || decide (s.ctl.bypass = .opened)) then
    s.beginHandback c
  else s

/-! ## Fault reports and trips (R57, R58, R149, R153) -/

/-- The cycle stamp and slot of a report (R153, log 21). -/
def State.faultStamp (s : State) : Stamp × Nat :=
  match s.inst.work with
  | some n => (n, 63)
  | none => (s.tb.counter, s.tb.slot)

/-- The first-fault record takes a report (R153): an empty record is filled, with event FAULT and trigger
FAULT; otherwise the later-fault count rises. -/
def State.recordFault (s : State) (k : FaultKind) (phase : Option Phase) (detail : Option Nat) : State :=
  if s.fm.first.kind.isNone then
    ((s.modFm fun m => { m with
        first := ⟨some k, s.ctl.service, s.faultStamp.1, s.faultStamp.2, phase, detail, 0⟩ }).raise
      .fault).giveTrigger .fault
  else s.modFm fun m => { m with first := { m.first with later := countUp 255 m.first.later } }

/-- The bypass after a TRIP in any state but IDLE_OUT (R58). -/
def State.tripBypass (s : State) (k : FaultKind) : State :=
  match s.ctl.bypass with
  | .opening | .opened => s.beginClosing
  | .closing => s
  | .closed =>
    if k = .bypassUncommanded then
      (s.beginClosing).modCtl fun c => { c with gates := true }
    else s

/-- Closes the open record of an injecting station at a trip (R137). -/
def State.abortRecord (s : State) (k : FaultKind) : State :=
  if s.recordOpen then
    (s.modRecord fun r => { r with hasFault := true, fault := some k }).closeRecord .abortedFault
  else s

/-- The transmit queue at an entry to LOCKOUT (R57, R122): one DEPART frame alone, and nothing after it;
or no frame at all, after DUPLICATE_STATION or from START. -/
def State.lockoutQueue (s : State) (sends : Bool) : State :=
  let s1 := if sends then s.enqueue .depart else s.removeQueued .depart
  let s2 := (((s1.removeQueued .onset).removeQueued .restore).removeQueued .share).removeQueued .status
  s2.modLine fun l => { l with mute := if sends then .departOnly else .muted }

/-- The entry to LOCKOUT (R57). -/
def State.enterLockout (s : State) (k : FaultKind) : State :=
  let s1 := if s.injecting then s.abortRecord k else s
  let s2 := s1.setService .lockout
  let s3 := s2.modCtl fun c => { c with cause := none, reonset := false }
  let s4 := s3.lockoutQueue (decide (s.ctl.service ≠ .start) && decide (k ≠ .duplicateStation))
  (s4.tripBypass k).cutCommand

/-- The controller takes a TRIP (R57, R149). -/
def State.trip (s : State) (k : FaultKind) : State :=
  match s.ctl.service with
  | .idleOut => s
  | .lockout => s.tripBypass k
  | .start | .syncing | .standby | .injecting | .withdrawn => s.enterLockout k

/-- A fault report (R148): recorded or counted, then, for a TRIP, passed to the controller (R149). A
HANDBACK or NOTE passes nothing on (R150). -/
def State.report (s : State) (k : FaultKind) (phase : Option Phase) (detail : Option Nat) : State :=
  let s1 := s.recordFault k phase detail
  if k.trips then s1.trip k else s1

/-- A single-bit error is corrected: counted, with its event (R27, R152). -/
def State.countCorrected (s : State) : State :=
  (s.modFm fun m => { m with corrected := countUp 65535 m.corrected }).raise .eccCorrected

/-- Several single-bit errors, each counted and each raising the event anew (R152). -/
def State.countCorrections (s : State) : Nat → State
  | 0 => s
  | n + 1 => s.countCorrected.countCorrections n

/-- A double-bit error found in the template memory (R28): TEMPLATE_ECC, the ring emptied, and cause
TEMPLATE, which is no cause outside INJECTING. -/
def State.templateFault (s : State) (p : Phase) : State :=
  ((s.report .templateEcc (some p) none).emptyRing).takeCause .template

/-! ## Onsets (R37, R38, R50) -/

/-- A served onset opens an episode (R50, R37): the controller, the datapath's fold-back factors, the
detector, the template store's injected flag, the record, the planner's onset plan, the ONSET frame and
the ONSET trigger. -/
def State.openEpisode (s : State) (o : Onset) : State :=
  let s1 := s.setService .injecting
  let s2 := s1.modCtl fun c => { c with
    bypass := .opening, commandOpen := true, gates := true, timer := Config.openBound
    uncommanded := 0, cause := none, reonset := false }
  let s3 := s2.modDet fun d => { d with restoreCount := 0, restoreNotice := false, quiet := false }
  let s4 := s3.modTmpl fun t => { t with injected := true }
  let s5 := s4.openRecord o
  let onset : PerPhase PhasePlan := .all ⟨true, 256⟩
  let s6 := s5.modEn fun e => { e with
    elapsed := 0, plan := onset
    depth := match s5.ep.records.getLast? with | some r => r.depth | none => 0 }
  let s7 := s6.modDp fun d => { d with g := .all 256, plan := onset }
  let s8 := s7.modInst fun i => { i with opened := true, moved := true }
  (s8.enqueue .onset).giveTrigger .onset

/-- An onset is taken (R37): served unless the band in force is DEPLETED, else unserved (R38). The injected
flag of R17 is set by the served one alone, so an unserved join between two sample events leaves it (the
model's choice: log 32). -/
def State.takeOnset (s : State) (o : Onset) : State :=
  if s.en.band = .depleted then
    (s.unservedRecord o).modDet fun d => { d with disarm := true }
  else s.openEpisode o

/-- The onset conditions that R35 and R36 share. -/
def State.onsetAllowed (s : State) : Bool :=
  decide (s.ctl.service = .standby) && s.ready && !s.barred && !s.det.disarm

/-- An onset with the cycle, slot and sag flags of the most recent sample event (R35, R36). -/
def State.onsetNow (s : State) (peer : Bool) : Onset := ⟨peer, s.tb.cycle, s.tb.slot, s.det.sag⟩

end Sys2Proof.Machine
end

