-- ==== Sys2Proof/Machine/Template.lean ====
section
/-! DEFINITION. The template store (chapter 2): collecting and judging cycles, the recomputation, and
the reads that check the template memory. -/

namespace Sys2Proof.Machine

/-! ## Words and errors of a waveform (R26) -/

/-- The code of a phase at a slot. -/
def Waveform.code (w : Waveform) (p : Phase) (k : Nat) : Int := (w.codes.get p).getD k 0

/-- The three codes of a slot. -/
def Waveform.slot (w : Waveform) (k : Nat) : PerPhase Int :=
  ⟨w.code .a k, w.code .b k, w.code .c k⟩

/-- The error of a word: none, or whether it is double-bit. -/
def Waveform.errorAt (w : Waveform) (p : Phase) (k : Nat) : Option Bool :=
  (w.errors.find? fun e => decide (e.phase = p) && decide (e.slot = k)).map fun e => e.double

/-- A word is encoded afresh: written, or corrected and written back (R26, R27). -/
def Waveform.encode (w : Waveform) (p : Phase) (k : Nat) : Waveform :=
  { w with errors := w.errors.filter fun e => !(decide (e.phase = p) && decide (e.slot = k)) }

/-- An error strikes a word (log 10, log 12). -/
def Waveform.strike (w : Waveform) (p : Phase) (k : Nat) (double : Bool) : Waveform :=
  { w.encode p k with errors := ⟨p, k, double⟩ :: (w.encode p k).errors }

/-- Writes the three codes of a slot, encoding each word (R17). -/
def Waveform.writeSlot (w : Waveform) (k : Nat) (x : PerPhase Int) : Waveform :=
  { codes := ⟨w.codes.a.set k x.a, w.codes.b.set k x.b, w.codes.c.set k x.c⟩
    errors := w.errors.filter fun e => !decide (e.slot = k) }

/-- An error strikes a word of the template memory; a word that does not exist is not struck. -/
def Template.strike (t : Template) (u : TemplateUpset) : Template :=
  match u.word with
  | .held i p k =>
    { t with ring := t.ring.set i ((t.ring.getD i .zero).strike p k u.double) }
  | .collecting p k => { t with collecting := t.collecting.strike p k u.double }
  | .value p k => { t with values := t.values.strike p k u.double }

/-- The errors that have struck the template memory since the last event (log 10). -/
def State.strikeTemplate (s : State) (ups : List TemplateUpset) : State :=
  s.modTmpl fun t => ups.foldl Template.strike t

/-! ## Reads that check words (R26 to R28) -/

/-- What a run of reads has found so far: the waveform with its single-bit errors corrected, how many
there were, and the phase of the first double-bit error, at which the reads end. -/
structure ReadRun where
  wave : Waveform
  corrected : Nat
  double : Option Phase
  deriving DecidableEq, Repr

/-- One word is read and checked; nothing is read after a double-bit error. -/
def ReadRun.read (r : ReadRun) (p : Phase) (k : Nat) : ReadRun :=
  if r.double.isSome then r
  else match r.wave.errorAt p k with
    | none => r
    | some false => { r with wave := r.wave.encode p k, corrected := r.corrected + 1 }
    | some true => { r with double := some p }

/-- The three words of a slot are read, phases A, B and C in turn (log 11). -/
def ReadRun.readSlot (r : ReadRun) (k : Nat) : ReadRun := ((r.read .a k).read .b k).read .c k

/-- What the reads of several waveforms have found (R26). -/
structure RingRun where
  ring : List Waveform
  corrected : Nat
  double : Option Phase
  deriving DecidableEq, Repr

/-- The reads of `slots` in each waveform in turn, ending at a double-bit error (log 11). -/
def readRing (slots : List Nat) : List Waveform → RingRun
  | [] => ⟨[], 0, none⟩
  | w :: rest =>
    let r := slots.foldl ReadRun.readSlot ⟨w, 0, none⟩
    match r.double with
    | some p => ⟨r.wave :: rest, r.corrected, some p⟩
    | none =>
      let q := readRing slots rest
      ⟨r.wave :: q.ring, r.corrected + q.corrected, q.double⟩

/-- What the template store's reads of a sample event give (R26): the template values supplied, if any,
and the phase of a double-bit error found. -/
structure SampleRead where
  supplied : Option (PerPhase Int)
  double : Option Phase
  deriving DecidableEq, Repr

/-- The reads of a sample event at slot `k`: the template values while VALID, then the scrub of the held
cycles, single-bit errors corrected and counted (R26, R27). The scrub reads every held cycle, so in a ring
still FILLING it finds a double-bit error of a word that was struck while it was collected (the model's
choice: log 33). -/
def State.readSample (s : State) (k : Nat) : SampleRead × State :=
  let v : ReadRun :=
    if s.valid then (ReadRun.mk s.tmpl.values 0 none).readSlot k else ⟨s.tmpl.values, 0, none⟩
  let s1 := (s.modTmpl fun t => { t with values := v.wave }).countCorrections v.corrected
  match v.double with
  | some p => (⟨none, some p⟩, s1)
  | none =>
    let r := readRing [k] s.tmpl.ring
    (⟨if s.valid then some (s.tmpl.values.slot k) else none, r.double⟩,
     (s1.modTmpl fun t => { t with ring := r.ring }).countCorrections r.corrected)

/-! ## The per-cycle flags and the collecting area (R17) -/

/-- The slot-0 sample event of a cycle clears the three flags (R17). -/
def Template.clearFlags (t : Template) : Template :=
  { t with injected := false, disturbed := false, emptied := false }

/-! ## Judging a cycle (R18 to R22) -/

/-- The level test of one phase (R18): 207 × 2^33 ≤ 256 × Lx ≤ 310 × 2^33. -/
def healthyLevel (lx : Nat) : Bool :=
  decide (207 * 2 ^ 33 ≤ 256 * lx) && decide (256 * lx ≤ 310 * 2 ^ 33)

/-- The completed cycle is healthy (R18). -/
def Template.healthy (t : Template) (lockHeld : Bool) (lx : PerPhase Nat) : Bool :=
  lockHeld && !t.injected
    && (healthyLevel lx.a && healthyLevel lx.b && healthyLevel lx.c)
    && !t.disturbed && !t.emptied

/-- The mean of the held codes of a word, rounded with ties toward plus infinity (R21): the sum of four
plus 2, divided by 4 and floored. -/
def meanCode (ring : List Waveform) (p : Phase) (k : Nat) : Int :=
  ((ring.map fun w => w.code p k).sum + 2) / 4

/-- The template values of one phase, recomputed (R21). -/
def meanPhase (ring : List Waveform) (p : Phase) : List Int :=
  (List.range Config.slots).map (meanCode ring p)

/-- The level sum of some codes (R22). -/
def levelSum (codes : List Int) : Nat := (codes.map square).sum

/-- The template values and level sums are recomputed (R21, R22). -/
def Template.recompute (t : Template) : Template :=
  let v : PerPhase (List Int) := ⟨meanPhase t.ring .a, meanPhase t.ring .b, meanPhase t.ring .c⟩
  { t with values := ⟨v, []⟩, lt := v.map levelSum }

/-- The healthy cycle becomes the newest held cycle, the oldest of four being dropped (R19). -/
def Template.append (t : Template) : Template :=
  { t with
    ring := (if t.ring.length < Config.heldCycles then t.ring else t.ring.tail) ++ [t.collecting]
    collecting := .zero }

/-- The template becoming VALID: the windows at zero (R31), the onset disarm flag cleared (R38), and the
readiness test (R48). -/
def State.becomeValid (s : State) : State :=
  (s.zeroMetric.modDet fun d => { d with disarm := false }).testReady

/-- A healthy cycle is appended; a ring of four is read whole and recomputed, or abandoned at a double-bit
error (R19, R21, R26, R28). -/
def State.appendCycle (s : State) : State :=
  let s1 := s.modTmpl Template.append
  if s1.valid then
    let r := readRing (List.range Config.slots) s1.tmpl.ring
    let s2 := (s1.modTmpl fun t => { t with ring := r.ring }).countCorrections r.corrected
    match r.double with
    | some p => s2.templateFault p
    | none =>
      let s3 := s2.modTmpl Template.recompute
      if s.valid then s3 else s3.becomeValid
  else s1

/-- The template store's boundary work (R18, R19). -/
def State.templateBoundary (s : State) (lockHeld : Bool) (lx : PerPhase Nat) : State :=
  if s.tmpl.healthy lockHeld lx then s.appendCycle else s

end Sys2Proof.Machine
end

