-- ==== Sys2Proof/Machine/Detector.lean ====
section
/-! DEFINITION. The sag detector (chapter 3): the metric, the per-cycle flags, onsets and joins, and the
restore decisions. -/

namespace Sys2Proof.Machine

/-! ## The metric and the per-cycle flags (R17, R30, R31, R33, R34) -/

/-- The deviation of a phase (R30). -/
def deviation (x t : Int) : Int := saturate (x - t)

/-- A squared deviation enters the window as its newest value and the oldest leaves (R30). -/
def shiftWindow (w : List Nat) (d2 : Nat) : List Nat := w.tail ++ [d2]

/-- The metric takes a sample for which the template is in force (R30), with the sag flags (R33), the
quiet flag (R34) and the template store's disturbed flag (R17). -/
def State.takeDeviation (s : State) (values : PerPhase Int) : State :=
  let d := s.tb.x.zip deviation values
  let w := s.det.window.zip shiftWindow (d.map square)
  let q := w.map List.sum
  let high := q.any fun v => decide (s.det.qOff ≤ v)
  (s.modDet fun e => { e with
      window := w, q := q
      sag := e.sag.zip (fun f v => f || decide (e.qOn ≤ v)) q
      quiet := e.quiet && !high }).modTmpl fun t => { t with disturbed := t.disturbed || high }

/-- The metric at a sample event: taken when the template is in force; otherwise no deviation is computed,
the cycle is not quiet (R34), and withheld values leave the windows at zero (R31). -/
def State.takeMetric (s : State) (r : SampleRead) : State :=
  match r.supplied with
  | some values => s.takeDeviation values
  | none =>
    let s1 := s.modDet fun d => { d with quiet := false }
    if s.valid then s1.zeroMetric else s1

/-- The slot-0 sample event of a cycle (R33, R34). -/
def Detector.startCycle (d : Detector) : Detector := { d with sag := .all false, quiet := true }

/-! ## Onsets (R35, R36, R39, R54) -/

/-- The detector's tests of a sample event: an own onset in STANDBY (R35), an onset passed to the
controller in INJECTING (R39), which a bypass CLOSING takes as a pending re-onset (R54). -/
def State.testOnset (s : State) : State :=
  if s.onsetAllowed && s.metricReaches s.det.qOn then s.takeOnset (s.onsetNow false)
  else if s.injecting && s.valid && s.metricReaches s.det.qOn && decide (s.ctl.bypass = .closing) then
    s.modCtl fun c => { c with reonset := true }
  else s

/-- An ONSET notice from a member peer (R36). -/
def State.onsetNotice (s : State) : State :=
  if s.onsetAllowed && s.metricReaches s.det.qJoin then s.takeOnset (s.onsetNow true) else s

/-- A RESTORE notice from a member peer (R43). -/
def State.restoreNotice (s : State) : State :=
  if s.injecting then s.modDet fun d => { d with restoreNotice := true } else s

/-! ## The detector at a boundary (R38, R41 to R43) -/

/-- The restore count after a boundary in INJECTING (R41). -/
def restoreAfter (h count : Nat) (quiet : Bool) : Nat := if quiet then countUp h count else 0

/-- RIDDEN is raised at a boundary (R42, R43): the count reaches H from H − 1, or the restore notice flag
is set with the count at 1 or more. -/
def riddenDue (h before after : Nat) (notice : Bool) : Bool :=
  (decide (after = h) && decide (before + 1 = h)) || (notice && decide (1 ≤ after))

/-- The detector's boundary work: a quiet cycle re-arms onset (R38); in INJECTING the restore count is
updated (R41) and RIDDEN raised (R42, R43). -/
def State.detectorBoundary (s : State) (quiet : Bool) : State :=
  let s1 := if quiet then s.modDet fun d => { d with disarm := false } else s
  if s1.injecting then
    let n := restoreAfter s1.port.params.h s1.det.restoreCount quiet
    let s2 := s1.modDet fun d => { d with restoreCount := n }
    if riddenDue s1.port.params.h s1.det.restoreCount n s1.det.restoreNotice then s2.takeCause .ridden
    else s2
  else s1

end Sys2Proof.Machine
end

