-- ==== Sys2Proof/Machine/Control.lean ====
section
/-! DEFINITION. The module state controller at a sample event (chapter 4): the bypass feedback, close
confirmation, the uncommanded-opening test; and the WITHDRAW and RETURN requests. -/

namespace Sys2Proof.Machine

/-! ## Close confirmation (R55) -/

/-- The test of a pending re-onset at a confirmed close (R39, R55): taken as an own onset at this sample
event, unless the station is onset-barred. -/
def State.takeReonset (s : State) : State :=
  if decide (s.ctl.service = .standby) && s.metricReaches s.det.qOn && !s.barred then
    s.takeOnset (s.onsetNow false)
  else s

/-- The close of a hand-back is confirmed (R55). -/
def State.confirmClose (s : State) : State :=
  let s1 := s.modCtl fun c => { c with bypass := .closed, gates := false, timer := 0 }
  let s2 := s1.closeRecord s1.closingOutcome
  let s3 := s2.setService (if s2.valid then .standby else .syncing)
  let s4 := s3.modCtl fun c => { c with cause := none, reonset := false }
  if s.ctl.reonset then s4.takeReonset else s4

/-! ## The feedback tests (R51, R53, R56, R58) -/

/-- The feedback test while OPENING (R51). -/
def State.testOpening (s : State) : State :=
  if s.tb.feedbackOpen then s.modCtl fun c => { c with bypass := .opened, timer := 0 }
  else
    let s1 := s.modCtl fun c => { c with timer := c.timer - 1 }
    if s1.ctl.timer = 0 then s1.report .bypassOpenFail none none else s1

/-- BYPASS_CLOSE_FAIL is reported, once for a closing (R53, R58). -/
def State.reportCloseFail (s : State) : State :=
  (s.modCtl fun c => { c with closeFailed := true }).report .bypassCloseFail none none

/-- The feedback test while CLOSING (R53, R58): CLOSED confirms the closure; OPEN counts the bound down,
and its expiry is reported once. -/
def State.testClosing (s : State) : State :=
  if s.tb.feedbackOpen then
    if s.ctl.timer = 0 then s
    else
      let s1 := s.modCtl fun c => { c with timer := c.timer - 1 }
      if s1.ctl.timer = 0 then s1.reportCloseFail else s1
  else if s.injecting then s.confirmClose
  else s.modCtl fun c => { c with bypass := .closed, gates := false, timer := 0 }

/-- BYPASS_UNCOMMANDED is reported and the count returns to 0 (R56). -/
def State.reportUncommanded (s : State) : State :=
  (s.modCtl fun c => { c with uncommanded := 0 }).report .bypassUncommanded none none

/-- The feedback test while CLOSED (R56), once it is no longer held off. -/
def State.testClosed (s : State) : State :=
  if s.tb.feedbackOpen then
    let s1 := s.modCtl fun c => { c with uncommanded := c.uncommanded + 1 }
    if Config.uncommandedLimit ≤ s1.ctl.uncommanded then s1.reportUncommanded else s1
  else s.modCtl fun c => { c with uncommanded := 0 }

/-- The controller counts a sample event from reset release; the uncommanded-opening test is enabled
after 64 of them (R56). -/
def State.countSample (s : State) : State :=
  s.modCtl fun c => { c with
    samples := countUp Config.holdOffSamples c.samples
    watch := c.watch || decide (Config.holdOffSamples ≤ c.samples + 1) }

/-- The controller's test of the feedback a sample carries, by bypass state. The sample at which a
transfer was begun is not tested against it (R50, R53, log 22). `watched` says whether the
uncommanded-opening test is enabled at this sample. -/
def State.testFeedback (s : State) (watched : Bool) : State :=
  if s.inst.moved then s
  else match s.ctl.bypass with
    | .closed => if watched then s.testClosed else s
    | .opening => s.testOpening
    | .opened => s
    | .closing => s.testClosing

/-! ## Withdraw and return (R59, R60) -/

/-- A WITHDRAW request (R59). -/
def State.requestWithdraw (s : State) : Result × State :=
  match s.ctl.service with
  | .syncing | .standby => (.ok, (s.setService .withdrawn).enqueue .depart)
  | .injecting => (.busy, s)
  | .start | .idleOut | .withdrawn | .lockout => (.refusedState, s)

/-- A RETURN request (R60, R122): a pending DEPART frame is removed. -/
def State.requestReturn (s : State) : Result × State :=
  match s.ctl.service with
  | .withdrawn => (.ok, (s.setService .syncing).removeQueued .depart)
  | .start | .syncing | .standby | .injecting | .lockout | .idleOut => (.refusedState, s)

end Sys2Proof.Machine
end

