-- ==== Sys2Proof/Machine/Datapath.lean ====
section
/-! DEFINITION. The injection datapath (chapter 5): the command chain, the duty, the clamp flags, the
word for capture and the overcurrent test. -/

namespace Sys2Proof.Machine

/-! ## The chain of one phase (R67 to R74) -/

/-- The limits of a sample that the chain holds a command within. -/
structure ChainLimits where
  cabinet : Nat
  module : Nat
  headroom : Nat
  deriving DecidableEq, Repr

/-- The headroom limit of a sample (R72). -/
def headroomLimit (vdc kh : Nat) : Nat := vdc * kh / 4096

/-- The target y (R67). -/
def chainTarget (f : Nat) (t : Int) : Int := div256 (f * t)

/-- The missing voltage m, held within the cabinet ceiling (R68). -/
def chainMissing (mc : Nat) (y x : Int) : Int := within mc (saturate (y - x))

/-- The cabinet ceiling or the saturation changed the missing voltage (R68). -/
def chainClamped (mc : Nat) (y x : Int) : Bool := decide (chainMissing mc y x ≠ y - x)

/-- The own part c (R69, R70): the missing voltage, or 0 with the gate off, times the share, divided by
256, rounded. -/
def chainOwn (gate : Bool) (m : Int) (share : Nat) : Int := div256 ((if gate then m else 0) * share)

/-- The fold-back factor after the update of a sample (R73). -/
def foldBack (iLim : Nat) (i : Int) (g : Nat) : Nat :=
  if iLim < i.natAbs then max 64 (g - 32)
  else if 8 * i.natAbs ≤ 7 * iLim then min 256 (g + 8)
  else g

/-- What the chain gives for one phase: the updated factor, the final command, and the clamp flags it
sets. -/
structure ChainOut where
  g : Nat
  command : Int
  flags : ClampFlags
  deriving DecidableEq, Repr

/-- The command chain of one phase (Table 5-3.1). -/
def chain (lim : ChainLimits) (iLim share : Nat) (plan : PhasePlan) (g : Nat) (x i t : Int) : ChainOut :=
  let y := chainTarget plan.f t
  let c := chainOwn plan.gate (chainMissing lim.cabinet y x) share
  let c1 := within lim.module c
  let c2 := within lim.headroom c1
  let g1 := foldBack iLim i g
  { g := g1
    command := div256 (c2 * g1)
    flags := ⟨plan.gate && chainClamped lim.cabinet y x, decide (c1 ≠ c), decide (c2 ≠ c1),
      decide (g1 < 256)⟩ }

/-- The duty of a phase (R75): the command times 1024 divided by the headroom limit, truncated toward
zero; a command of 0 needs no duty. -/
def dutyOf (headroom : Nat) (command : Int) : Int := (command * 1024).tdiv headroom

/-! ## The command of a sample event (R65, R74 to R76, R78) -/

/-- The conditions under which the chain computes the commands (R65). -/
def State.chainRuns (s : State) (r : SampleRead) : Bool :=
  s.injecting && (decide (s.ctl.bypass = .opening) || decide (s.ctl.bypass = .opened))
    && s.valid && r.supplied.isSome && !s.barred && !s.inst.opened

/-- The limits of the sample held. -/
def State.limits (s : State) : ChainLimits :=
  ⟨s.port.params.mc, s.port.params.mm, headroomLimit s.tb.vdc s.port.params.kh⟩

/-- The chain of phase `p` at the sample held. -/
def State.chainOf (s : State) (values : PerPhase Int) (p : Phase) : ChainOut :=
  chain s.limits s.port.params.iLim s.dp.share (s.dp.plan.get p) (s.dp.g.get p) (s.tb.x.get p)
    (s.tb.i.get p) (values.get p)

/-- The live buffer takes the final commands of the sample, as computed (R76, R141). -/
def State.writeCommands (s : State) (c : PerPhase Int) : State :=
  s.modCap fun m => { m with
    filling := ((m.filling.set (192 + s.tb.slot) c.a).set (256 + s.tb.slot) c.b).set
      (320 + s.tb.slot) c.c }

/-- The datapath puts commands in force, hands their duties to the modulator and their words to capture
(R74 to R76). -/
def State.putCommand (s : State) (c : PerPhase Int) : State :=
  (s.modDp fun d => { d with command := c, duty := c.map (dutyOf s.limits.headroom) }).writeCommands c

/-- The datapath at a sample event (R65): the chain on every phase, or a command of 0 on every phase. -/
def State.runChain (s : State) (r : SampleRead) : State :=
  match s.chainRuns r, r.supplied with
  | true, some values =>
    let a := s.chainOf values .a
    let b := s.chainOf values .b
    let c := s.chainOf values .c
    (s.modDp fun d => { d with
        g := ⟨a.g, b.g, c.g⟩
        flags := ((d.flags.or a.flags).or b.flags).or c.flags }).putCommand
      ⟨a.command, b.command, c.command⟩
  | _, _ => s.putCommand (.all 0)

/-! ## Overcurrent (R77) -/

/-- The first phase whose current magnitude is at or above the trip level. -/
def State.overPhase (s : State) : Option Phase :=
  [Phase.a, .b, .c].find? fun p => decide (s.dp.tripLevel ≤ (s.tb.i.get p).natAbs)

/-- The overcurrent test of a sample event (R77): a report when the flag goes from clear to set. -/
def State.testOvercurrent (s : State) : State :=
  match s.overPhase with
  | none => s.modDp fun d => { d with overcurrent := false }
  | some p =>
    let s1 := s.modDp fun d => { d with overcurrent := true }
    if s.dp.overcurrent then s1
    else s1.report .overcurrentTrip (some p) (some (s.tb.i.get p).natAbs)

end Sys2Proof.Machine
end

