-- ==== Sys2Proof/Machine/Planner.lean ====
section
/-! DEFINITION. The energy monitor and the support planner (chapter 6). -/

namespace Sys2Proof.Machine

/-! ## The energy monitor at a sample event (R81, R83, R84) -/

/-- The energy credit of a DC link code (R81). -/
def creditOf (vdc vmin : Nat) : Nat := min 65535 ((vdc * vdc - vmin * vmin) / 256)

/-- The credit and CHG_EN follow the sample's Vdc (R81, R83); before a commit U is 0. -/
def State.takeCredit (s : State) : State :=
  s.modEn fun e => { e with
    credit := if s.port.committed then creditOf s.tb.vdc s.port.params.vmin else 0
    chgEn := s.chargerOn }

/-- The overvoltage comparison (R84), from the commit onward. -/
def State.testOvervoltage (s : State) : State :=
  if !s.port.committed then s
  else if s.port.params.vover ≤ s.tb.vdc then
    let s1 := s.modEn fun e => { e with overvoltage := true }
    if s.en.overvoltage then s1
    else (s1.report .dcOvervoltage none (some s.tb.vdc)).raise .dcOvervoltage
  else s.modEn fun e => { e with overvoltage := false }

/-- The energy monitor at a sample event. -/
def State.takeLink (s : State) : State := s.takeCredit.testOvervoltage

/-! ## The planner at a boundary (R85 to R95) -/

/-- The cabinet fraction of a credit sum over `n` members (R85). -/
def fractionOf (sum n full : Nat) : Nat := min 256 (256 * sum / (n * full))

/-- The cabinet fraction φ on the peer table as it stands (R85). -/
def State.cabinetFraction (s : State) : Nat :=
  fractionOf (s.en.credit + s.su.creditSum s.su.memberPeers) (s.su.memberPeers.length + 1) s.en.full

/-- The effective full threshold B_eff (R87). -/
def State.effectiveFull (s : State) : Nat :=
  min 255 (s.port.params.bFull + (if s.injecting then s.en.depth else 0) * s.port.params.bShift)

/-- The band of a cabinet fraction (R87). -/
def bandOf (bEff bMin phi : Nat) : Band :=
  if bEff ≤ phi then .full else if bMin ≤ phi then .envelope else .depleted

/-- The envelope fraction for the elapsed cycles (R90): that of the first segment whose end cycle is
greater, or of the last segment. -/
def envelopeFraction : List (Nat × Nat) → Nat → Nat
  | [], _ => 0
  | [(_, f)], _ => f
  | (e, f) :: y :: rest, n => if n < e then f else envelopeFraction (y :: rest) n

/-- The gate of a phase in band ENVELOPE (R93): 65536 × Lx < f² × Lt. -/
def envelopeGate (f lx lt : Nat) : Bool := decide (65536 * lx < f * f * lt)

/-- The support plan of a boundary in INJECTING (R92). -/
def planOf (band : Band) (judged : Bool) (f : Nat) (lx lt : PerPhase Nat) : PerPhase PhasePlan :=
  match band with
  | .depleted => planOff
  | .full => .all ⟨true, 256⟩
  | .envelope | .none =>
    if judged then lx.zip (fun l t => ⟨envelopeGate f l t, f⟩) lt else .all ⟨true, 256⟩

/-- The retained level of a phase (R95). -/
def retainedLevel (lx lt : Nat) : Nat := if lt = 0 then 255 else min 255 (256 * lx / lt)

/-- What the planner hands the open record at a boundary (R95, R134). -/
def Record.addBand (r : Record) (band : Band) (judged : Bool) (lx lt : PerPhase Nat) : Record :=
  { r with
    full := if band = .full then countUp 65535 r.full else r.full
    envelope := if band = .envelope then countUp 65535 r.envelope else r.envelope
    retained := if judged then r.retained.zip min (lx.zip retainedLevel lt) else r.retained }

/-- The elapsed cycles e at a boundary (R89). -/
def State.elapsedAt (s : State) (completed : Stamp) : Nat :=
  match s.ep.records.getLast? with
  | some r => elapsedCycles (completed - r.stamp + 1)
  | none => s.en.elapsed

/-- The plan, the record and the ENERGY cause of a boundary in INJECTING (R88, R89, R92, R95). -/
def State.planInjecting (s : State) (completed : Stamp) (lx : PerPhase Nat) (vdc : Nat) : State :=
  let e := s.elapsedAt completed
  let judged := decide (2 ≤ e)
  let plan := planOf s.en.band judged (envelopeFraction s.port.params.envelope e) lx s.tmpl.lt
  let s1 := (s.modEn fun n => { n with elapsed := e, plan := plan }).modDp fun d => { d with plan := plan }
  let s2 := s1.contribute fun r => r.addBand s.en.band judged lx s.tmpl.lt
  if decide (s.en.band = .depleted) || decide (vdc ≤ s.port.params.vmin) then s2.takeCause .energy else s2

/-- The planner's boundary work, from the commit onward (R85, R87). -/
def State.plannerBoundary (s : State) (completed : Stamp) (lx : PerPhase Nat) (vdc : Nat) : State :=
  if s.port.committed then
    let s1 := s.modEn fun e => { e with
      phi := s.cabinetFraction
      band := bandOf s.effectiveFull s.port.params.bMin s.cabinetFraction }
    if s1.injecting then s1.planInjecting completed lx vdc else s1
  else s

end Sys2Proof.Machine
end

