-- ==== Sys2Proof/Machine/Share.lean ====
section
/-! DEFINITION. The share unit (chapter 7): taking frames into the peer table, aging, isolation, the
share, the LINE cause and the disagreement check. -/

namespace Sys2Proof.Machine

/-! ## Taking a frame (R97 to R100, R104, R105, R111, R112) -/

/-- The missed-frame count after a frame (R100): the gap modulo 16 is added when the entry was PRESENT or
MISMATCHED and the number is not the last one's. -/
def PeerEntry.missedAfter (e : PeerEntry) (seq : Nat) : Nat :=
  if e.state = .present ∨ e.state = .mismatched then
    match e.seq with
    | some last => if seq = last then e.missed else min 255 (e.missed + (seq + 15 - last) % 16)
    | none => e.missed
  else e.missed

/-- The entry state after a frame (R98): the fingerprint is judged before the class. -/
def stateAfter (fpMatch : Bool) (c : FrameClass) : EntryState :=
  if fpMatch then (if c = .depart then .departed else .present) else .mismatched

/-- A peer entry after a frame (R98 to R100): the state, the fields the length carries, and the refreshed
mask. -/
def PeerEntry.take (e : PeerEntry) (f : Frame) (fingerprint : Byte) : PeerEntry :=
  let p := f.payload
  let n := p.length
  let fpMatch := decide (p.getD 0 0 = fingerprint)
  let seq := byteAt p 1 / 16
  { state := stateAfter fpMatch f.cls
    fpMatch := fpMatch
    reported := (ServiceState.ofFrame (byteAt p 1 % 16)).getD e.reported
    seq := some seq
    credit := if 4 ≤ n then wordAt p 2 else e.credit
    flags := if 5 ≤ n then p.getD 4 0 else e.flags
    share := if 7 ≤ n then wordAt p 5 else e.share
    episode := if 8 ≤ n then p.getD 7 0 else e.episode
    missed := e.missedAfter seq
    age := 0
    refreshed := ⟨decide (4 ≤ n), decide (5 ≤ n), decide (7 ≤ n), decide (8 ≤ n)⟩ }

/-- The events of a peer entry's change (R104): PEER_CHANGE on a change of state or of member status, and
FINGERPRINT_MISMATCH on entering MISMATCHED. -/
def State.peerEvents (s : State) (before after : PeerEntry) : State :=
  let s1 := if before.state ≠ after.state ∨ before.isMember ≠ after.isMember then s.raise .peerChange else s
  if before.state ≠ .mismatched ∧ after.state = .mismatched then s1.raise .fingerprintMismatch else s1

/-- Replaces an entry of the peer table. -/
def State.setEntry (s : State) (k : Nat) (e : PeerEntry) : State :=
  s.modSu fun u => { u with peers := u.peers.set k e }

/-- A frame taken into a peer entry ends isolation (R105); the share in force stays. Where the station's own
transmit age is L or more, this bars it: the command in force stays until the next sample event, at which R65
gives 0 (R110 says "from that arrival (R65)", R65 tests at sample events and R66 does not list the case: the
model's choice, DESIGN CHOICE, log 39). -/
def State.endIsolation (s : State) : State :=
  if s.su.isolated then (s.modSu fun u => { u with isolated := false }).raise .isolationChange else s

/-- The notice a frame gives once it is taken, if its entry is then a member (R111, R112). -/
def State.giveNotice (s : State) (c : FrameClass) (k : Nat) : State :=
  if (s.su.entry k).isMember then
    match c with
    | .onset => s.onsetNotice
    | .restore => s.restoreNotice
    | .depart => s
    | .share => s
    | .status => s
  else s

/-- The share unit takes a frame handed to it (R97): discarded before a commit; otherwise taken into the
entry of its station number, with the silence counter set to 0. -/
def State.takeFrame (s : State) (f : Frame) : State :=
  if s.port.committed then
    let before := s.su.entry f.station
    let after := before.take f s.port.fingerprint
    let s1 := (s.setEntry f.station after).modSu fun u => { u with silence := 0 }
    ((s1.endIsolation).peerEvents before after).giveNotice f.cls f.station
  else s

/-! ## The share unit at a boundary (R101, R105 to R107, R110, R113) -/

/-- A peer entry becomes LOST (R101). -/
def State.loseEntry (s : State) (k : Nat) : State :=
  ((s.setEntry k { s.su.entry k with state := .lost }).raise .peerChange).giveTrigger .peerLoss

/-- An entry's age at a boundary (R101): PRESENT and MISMATCHED entries are aged. -/
def PeerEntry.aged (e : PeerEntry) : PeerEntry :=
  if e.state = .present ∨ e.state = .mismatched then { e with age := countUp 255 e.age } else e

/-- An entry has reached the lost limit while PRESENT (R101). -/
def State.entryExpired (s : State) (k : Nat) : Bool :=
  decide ((s.su.entry k).state = .present) && decide (s.port.params.l ≤ (s.su.entry k).age)

/-- Entry `k` ages at a boundary, and a PRESENT entry whose age reaches L becomes LOST (R101). -/
def State.ageEntry (s : State) (k : Nat) : State :=
  let s1 := s.setEntry k (s.su.entry k).aged
  if s1.entryExpired k then s1.loseEntry k else s1

/-- The aging of the peer table (R101). -/
def State.agePeers (s : State) : State := (List.range 8).foldl State.ageEntry s

/-- The station has become due for isolation (R105). -/
def State.isolationDue (s : State) : Bool :=
  decide (s.port.params.l ≤ s.su.silence) && decide (1 < s.nExp) && !s.su.isolated

/-- The station becomes ISOLATED (R105): its event, and its fixed share at once. -/
def State.isolate (s : State) : State :=
  ((s.modSu fun u => { u with isolated := true }).raise .isolationChange).setShare

/-- The share the entry's last frame reported was carried by it (R113). -/
def ShareUnit.sharesKnown (u : ShareUnit) : Bool :=
  u.members.all fun k => (u.entry k).refreshed.share

/-- The shares in force during the completed cycle, as this station knows them (R113). -/
def State.shareSum (s : State) : Nat :=
  s.dp.share + (s.su.members.map fun k => (s.su.entry k).share).sum

/-- The disagreement check finds a sum other than 256 (R113). -/
def State.disagrees (s : State) : Bool :=
  s.su.selfMember && !s.su.isolated && !s.solo && s.su.sharesKnown && decide (s.shareSum ≠ 256)

/-- What the share unit hands the open record at a boundary (R109, R113, R134). -/
def Record.addShare (r : Record) (share count : Nat) (disagrees : Bool) : Record :=
  { r with
    peakShare := max r.peakShare share
    minMembers := min r.minMembers count
    disagreements := if disagrees then countUp 255 r.disagreements else r.disagreements }

/-- The share is set at a boundary in STANDBY or INJECTING (R107), and in INJECTING handed to the open
record with the outcome of the disagreement check (R109, R113). -/
def State.shareAtBoundary (s : State) : State :=
  if s.injecting then
    let s1 := s.setShare
    s1.contribute fun r => r.addShare s1.su.share s1.su.count s.disagrees
  else if s.ctl.service = .standby then s.setShare
  else s

/-- Cause LINE (R110): the station is onset-barred at a boundary in INJECTING. -/
def State.testLine (s : State) : State :=
  if s.injecting && s.barred then s.takeCause .line else s

/-- The share unit's boundary work, from the commit onward, taken as one event (R101, R102). A station that
becomes ISOLATED at a boundary does so, and has its fixed share, before the disagreement check, which an
ISOLATED station does not make (R105 and R113 leave the order open, and it is the model's choice: log 34). -/
def State.shareBoundary (s : State) : State :=
  if s.port.committed then
    let s1 := s.agePeers
    let s2 := s1.modSu fun u => { u with silence := countUp 255 u.silence }
    let s3 := if s2.isolationDue then s2.isolate else s2
    let s4 := s3.modSu fun u => { u with ownAge := countUp 255 u.ownAge }
    s4.shareAtBoundary.testLine
  else s

end Sys2Proof.Machine
end

