-- ==== Sys2Proof/Machine/LineControl.lean ====
section
/-! DEFINITION. The share line controller (chapter 8): beginning, losing and completing transmissions,
the error counts and line states, receiving, and its boundary work. -/

namespace Sys2Proof.Machine

/-! ## Beginning a frame (R116, R117, R119) -/

/-- The classes in the order of urgency (R119). -/
def urgency : List FrameClass := [.onset, .restore, .depart, .share, .status]

/-- The pending frame of a class is eligible (R119, R122). -/
def Line.eligible (l : Line) (c : FrameClass) : Bool :=
  (match l.queue.get c with | some p => !p.waits | none => false)
    && (decide (l.mute = .free) || (decide (l.mute = .departOnly) && decide (c = .depart)))

/-- The controller may begin a frame: the line idle, and ACTIVE or WARNED (R119). -/
def Line.mayBegin (l : Line) : Bool :=
  decide (l.tracking = .idle) && (decide (l.state = .active) || decide (l.state = .warned))

/-- The class to begin: the most urgent eligible one (R119). -/
def Line.nextClass (l : Line) : Option FrameClass := urgency.find? l.eligible

/-- FRAME_BEGIN (R119): the most urgent eligible frame is begun, its contents taken (R117). -/
def State.beginFrame (s : State) : State :=
  if s.line.mayBegin then
    match s.line.nextClass with
    | some c => s.modLine fun l => { l with tracking := .sending (s.frameContents c) true }
    | none => s
  else s

/-- The slot-0 sample event makes the frames queued at the boundary eligible (R119). -/
def TxQueue.release (q : TxQueue) : TxQueue :=
  let f : Option Pending → Option Pending := fun p => p.map fun x => { x with waits := false }
  ⟨f q.onset, f q.restore, f q.depart, f q.share, f q.status⟩

/-! ## Error counts and line states (R126) -/

/-- The line state after a change of TEC (R126). -/
def lineAfter (l : LineState) (tec : Nat) : LineState :=
  match l with
  | .active => if 128 ≤ tec then .silent else if 96 ≤ tec then .warned else .active
  | .warned => if 128 ≤ tec then .silent else if tec < 96 then .active else .warned
  | .silent => .silent
  | .stuck => .stuck

/-- TEC changes and the line state is tested; the silent timer starts on entering SILENT, and a change
raises LINE_STATE (R126). -/
def State.setTec (s : State) (tec : Nat) : State :=
  let now := lineAfter s.line.state tec
  let s1 := s.modLine fun l => { l with
    tec := tec, state := now
    silentTimer := if now = .silent ∧ l.state ≠ .silent then Config.silentCycles else l.silentTimer }
  if now = s.line.state then s1 else s1.raise .lineState

/-! ## Bits on the line (R116, R127, R128) -/

/-- The run counts after a sampled bit (R116, R127). -/
def Line.countBit (l : Line) (b : Bool) : Line :=
  if b then { l with dominant := 0, recessive := countUp Config.unstuckBits l.recessive }
  else { l with dominant := countUp Config.stuckBits l.dominant, recessive := 0 }

/-- The run counts after bits sampled one after another (R127). -/
def Line.countBits (l : Line) (bits : List Bool) : Line := bits.foldl Line.countBit l

/-- A frame that fails a receive check is abandoned and counted in REC, and the wait for 7 recessive bits
begins (R116, R128; log 29). -/
def Line.failFrame (l : Line) : Line :=
  { l with recErrors := countUp 65535 l.recErrors, tracking := .lost, recessive := 0 }

/-- One more bit of a frame that the controller follows, after those read: the frame is failed where a check
fails, and followed on otherwise (R128). -/
def Line.followBit (l : Line) (read : List Bool) (b : Bool) : Line :=
  if failsAt (read ++ [b]) read.length then l.failFrame
  else { l with tracking := .receiving (read ++ [b]) }

/-! ## The end of a transmission (R123 to R125) -/

/-- The bit at a position is a recessive bit of the arbitration field (R123). -/
def Frame.losesAt (f : Frame) (k : Nat) : Bool :=
  decide (1 ≤ k) && decide (k ≤ 6) && lineBit f.bits k

/-- LOST_ARBITRATION (R123): a recessive arbitration bit read dominant. The frame stays pending, and the
station follows the winner's frame with the bits it has read back, which it has also counted (R127). -/
def State.loseArbitration (s : State) (k : Nat) : State :=
  match s.line.tracking with
  | .sending f _ =>
    if f.losesAt k then s.modLine fun l =>
      (l.countBits (f.bits.take k ++ [false])).followBit (f.bits.take k) false
    else s
  | .lost | .idle | .receiving _ => s

/-- Once the DEPART frame of a LOCKOUT has completed or been dropped, nothing more is begun (R122). -/
def Mute.after (m : Mute) (c : FrameClass) : Mute :=
  match m with
  | .departOnly => if c = .depart then .muted else .departOnly
  | .free => .free
  | .muted => .muted

/-- A bit error is counted on the pending frame of a class, which is dropped at its fourth (R124). -/
def Line.countError (l : Line) (c : FrameClass) : Line :=
  match l.queue.get c with
  | some p =>
    if Config.dropErrors ≤ p.errors + 1 then
      { l with queue := l.queue.set none c, dropped := countUp 65535 l.dropped, mute := l.mute.after c }
    else { l with queue := l.queue.set (some { p with errors := p.errors + 1 }) c }
  | none => l

/-- The controller leaves its own frame after a bit error: beyond the start bit it follows the frame on the
line with the bits it has read back, the bit in error among them; at the start bit it follows none, and waits
for 7 recessive bits from there (R116, R124, Table 8-9.1; log 29). -/
def Line.leaveFrame (l : Line) (sent : List Bool) (k : Nat) : Line :=
  if k = 0 then { l with tracking := .lost, recessive := 0 }
  else l.followBit (sent.take k) (!lineBit sent k)

/-- TRANSMIT_BIT_ERROR (R124) at a position of the frame being transmitted: the controller stops, having
counted the bits it read back (R127), TEC rises by 8, the frame's bit-error count by 1, and the line state is
tested. -/
def State.bitError (s : State) (k : Nat) : State :=
  match s.line.tracking with
  | .sending f live =>
    if decide (k < f.bits.length) && !f.losesAt k then
      let s1 := s.modLine fun l => l.countBits (f.bits.take k ++ [!lineBit f.bits k])
      let s2 := s1.setTec (min 255 (s1.line.tec + 8))
      let s3 := if live then s2.modLine fun l => l.countError f.cls else s2
      s3.modLine fun l => l.leaveFrame f.bits k
    else s
  | .lost | .idle | .receiving _ => s

/-- FRAME_COMPLETE (R125): the frame leaves the queue, TEC falls, the sequence advances, the throttle is
reloaded by a STATUS or SHARE frame, the own transmit age returns to 0 (R106), and the line is idle. The
frame's bits, read back, have moved the run counts (R127). -/
def State.completeFrame (s : State) : State :=
  match s.line.tracking with
  | .sending f live =>
    let s1 := s.modLine fun l => { l.countBits f.bits with
      queue := if live then l.queue.set none f.cls else l.queue
      seq := (l.seq + 1) % 16
      throttle := if f.cls = .status ∨ f.cls = .share then s.port.params.ps else l.throttle
      tracking := .idle
      mute := if live then l.mute.after f.cls else l.mute }
    (s1.setTec (s1.line.tec - 1)).modSu fun u => { u with ownAge := 0 }
  | .lost | .idle | .receiving _ => s

/-! ## Receiving (R116, R127 to R129) -/

/-- An accepted frame (R128): handed to the share unit, or a DUPLICATE_STATION report when it carries this
station's own number (R129). The line is idle (R116). -/
def State.acceptFrame (s : State) (f : Frame) : State :=
  let s1 := s.modLine fun l => { l with tracking := .idle }
  if f.station = s.own then
    s1.report .duplicateStation none (some (byteAt f.payload 0))
  else s1.takeFrame f

/-- One more bit of a frame that the controller follows: at the fourth intermission bit the frame is accepted
when every check holds, and failed otherwise (R128). -/
def State.followBit (s : State) (read : List Bool) (b : Bool) : State :=
  if frameEnds (read ++ [b]) then
    match receiveFrame (read ++ [b]) with
    | some f => s.acceptFrame f
    | none => s.modLine Line.failFrame
  else s.modLine fun l => l.followBit read b

/-- LINE_IDLE (R116): 7 recessive bits make the line idle for a controller that follows no frame. It
ignores runs of recessive bits inside a frame that it follows, whose end makes the line idle there
(`State.acceptFrame`, `State.completeFrame`), and 11 of them end STUCK (R127). -/
def State.lineIdle (s : State) : State :=
  if s.line.state ≠ .stuck ∧ s.line.tracking = .lost then
    s.modLine fun l => { l with
      tracking := .idle, dominant := 0, recessive := max Config.idleBits l.recessive }
  else s

/-- LINE_STUCK (R127): the state is kept as the one to return to, a frame being followed is abandoned, and
LINE_STUCK is reported. -/
def State.enterStuck (s : State) : State :=
  if s.line.state = .stuck then s
  else
    let s1 := (s.modLine fun l => { l with
      state := .stuck, back := l.state, tracking := .lost
      dominant := Config.stuckBits, recessive := 0 }).raise .lineState
    s1.report .lineStuck none none

/-- STUCK_END (R127): the line state becomes the state to return to, and the line is idle. -/
def State.endStuck (s : State) : State :=
  if s.line.state = .stuck then
    (s.modLine fun l => { l with
      state := l.back, tracking := .idle, dominant := 0, recessive := Config.unstuckBits }).raise .lineState
  else s

/-- A counted bit, to a controller that neither transmits nor is STUCK (R116): the seventh recessive bit
makes the line idle for one that follows no frame, the first dominant bit on an idle line is the start bit of
a frame, and any bit of a frame that it follows is the next of that frame. -/
def State.hearBit (s : State) (b : Bool) : State :=
  match s.line.tracking with
  | .lost => if Config.idleBits ≤ s.line.recessive then s.lineIdle else s
  | .idle => if b then s else s.followBit [] b
  | .receiving read => s.followBit read b
  | .sending _ _ => s

/-- One bit sampled on the line (R116, R127): the 24th consecutive dominant bit makes the line STUCK, and the
11th consecutive recessive bit ends STUCK. The bits that the station sends itself are counted where its
transmission ends, and are no bits of this kind (log 29). -/
def State.sampleBit (s : State) (b : Bool) : State :=
  match s.line.tracking with
  | .sending _ _ => s
  | .lost | .idle | .receiving _ =>
    let s1 := s.modLine fun l => l.countBit b
    if s1.line.dominant = Config.stuckBits then s1.enterStuck
    else if s1.line.state = .stuck then
      if s1.line.recessive = Config.unstuckBits then s1.endStuck else s1
    else s1.hearBit b

/-- SHARE_FRAME_RECEIVED (R128): the bits sampled on the line, one after another. The frame they belong to is
accepted at its last bit, or failed at the bit where a check fails. -/
def State.receiveBits (s : State) (bits : List Bool) : State := bits.foldl State.sampleBit s

/-! ## The line controller at a boundary (R120, R121, R126) -/

/-- A station in these service states sends STATUS frames (R121). -/
def ServiceState.sendsStatus : ServiceState → Bool
  | .syncing | .standby | .withdrawn => true
  | .start | .injecting | .lockout | .idleOut => false

/-- The throttle counter at 0 queues a STATUS frame in SYNCING, STANDBY or WITHDRAWN (R121). -/
def State.queueStatus (s : State) : State :=
  if decide (s.line.throttle = 0) && s.ctl.service.sendsStatus then s.enqueue .status else s

/-- The silent timer runs (R126, R127). -/
def Line.silentRuns (l : Line) : Bool :=
  decide (l.state = .silent) || (decide (l.state = .stuck) && decide (l.back = .silent))

/-- The silent timer reaching 0 (R126, R127): TEC 0, and ACTIVE, now or as the state to return to. -/
def State.endSilence (s : State) : State :=
  if s.line.state = .stuck then s.modLine fun l => { l with tec := 0, back := .active }
  else (s.modLine fun l => { l with tec := 0, state := .active }).raise .lineState

/-- The silent timer at a boundary (R126). -/
def State.tickSilence (s : State) : State :=
  if s.line.silentRuns then
    let s1 := s.modLine fun l => { l with silentTimer := l.silentTimer - 1 }
    if s1.line.silentTimer = 0 then s1.endSilence else s1
  else s

/-- The throttle counter at a boundary, from the commit onward (R121). -/
def State.tickThrottle (s : State) : State :=
  if s.port.committed then (s.modLine fun l => { l with throttle := l.throttle - 1 }).queueStatus else s

/-- The line controller's boundary work (R120, R121, R126). -/
def State.lineBoundary (s : State) : State :=
  let s1 := if s.injecting then s.enqueue .share else s
  s1.tickThrottle.tickSilence

end Sys2Proof.Machine
end

