-- ==== Sys2Proof/Machine/Recording.lean ====
section
/-! DEFINITION. The recording blocks and the fault monitor at their own events: the episode ring's
boundary work (R134), the capture channels' requests, copies and actions (chapter 10), the parameter
scrub (R151). -/

namespace Sys2Proof.Machine

/-! ## The episode ring at a boundary (R134) -/

/-- The clamp counts after a cycle's published flags (R79, R134). -/
def ClampCounts.add (n : ClampCounts) (f : ClampFlags) : ClampCounts :=
  ⟨if f.cabinet then countUp 255 n.cabinet else n.cabinet,
   if f.saturation || f.headroom then countUp 255 n.module else n.module,
   if f.foldBack then countUp 255 n.foldBack else n.foldBack⟩

/-- Some clamp count is not 0. -/
def ClampCounts.present (n : ClampCounts) : Bool :=
  decide (0 < n.cabinet) || decide (0 < n.module) || decide (0 < n.foldBack)

/-- The open record after its own boundary work (R134): the duration, the phases involved, and the clamp
block once a count is not 0. -/
def Record.addCycle (r : Record) (sag : PerPhase Bool) (n : ClampCounts) : Record :=
  { r with
    duration := countUp 65535 r.duration
    phases := r.phases.zip (fun u v => u || v) sag
    hasClamps := r.hasClamps || n.present
    clamps := if r.hasClamps || n.present then n else r.clamps }

/-- The episode ring's boundary work while a record is open (R134). -/
def State.episodeBoundary (s : State) (sag : PerPhase Bool) (flags : ClampFlags) : State :=
  match s.ep.current with
  | some o =>
    (s.modRecord fun r => r.addCycle sag (o.clamps.add flags)).modEp fun e =>
      { e with current := some { o with clamps := o.clamps.add flags } }
  | none => s

/-! ## Capture at a sample event and at a boundary (R141, R144) -/

/-- The live buffer takes the grid codes of the sample held (R141). -/
def State.writeGrid (s : State) : State :=
  s.modCap fun m => { m with
    filling := ((m.filling.set s.tb.slot s.tb.x.a).set (64 + s.tb.slot) s.tb.x.b).set
      (128 + s.tb.slot) s.tb.x.c }

/-- The halves of the live buffer change roles at a boundary (R141). -/
def Capture.swap (c : Capture) : Capture := { c with filling := c.completed, completed := c.filling }

/-- The trigger cycle is the completed cycle or an earlier one (R144). -/
def Channel.reached (ch : Channel) (completed : Stamp) : Bool :=
  decide ((completed - ch.cycle).toNat < 2 ^ 31)

/-- A channel's boundary work (R144); a channel whose disarm is pending asks for no copy (R146). -/
def State.captureOne (s : State) (completed : Stamp) (one : Bool) : State :=
  let ch := s.cap.channel one
  if decide (ch.state = .capturing) && ch.reached completed && !ch.disarm then s.askCopy one else s

/-- The capture channels' boundary work (R144). -/
def State.captureBoundary (s : State) (completed : Stamp) : State :=
  ((s.captureOne completed false).captureOne completed true).modInst fun i => { i with captured := true }

/-! ## The copier (R144 to R146) -/

/-- What a channel becomes when its copy ends: the count and the write block move on; then ABORTED on a
pending disarm, COMPLETE at a count of 0. -/
def State.endCopyOf (s : State) (one : Bool) : State :=
  let s1 := s.modCap fun c => c.modChannel one fun ch =>
    { ch with count := ch.count - 1, write := ch.write + 1 }
  if (s.cap.channel one).disarm then s1.endCapture one .aborted
  else if (s1.cap.channel one).count = 0 then s1.endCapture one .complete
  else s1

/-- BLOCK_COPY_END (R145): the completed half is in the channel's write block, and a waiting copy begins. -/
def State.endCopy (s : State) : State :=
  match s.cap.copies with
  | [] => s
  | one :: waiting =>
    (s.modCap fun c => { c with
      memory := c.memory.copyBlock (c.channel one).write c.completed
      copies := waiting }).endCopyOf one

/-- The copies still outstanding end (log 14). -/
def State.endCopies (s : State) : Nat → State
  | 0 => s
  | n + 1 => s.endCopy.endCopies n

/-! ## Capture actions (R142, R146) -/

/-- Two regions share a block. -/
def regionsOverlap (f1 l1 f2 l2 : Nat) : Bool := decide (f1 ≤ l2) && decide (f2 ≤ l1)

/-- An ARM action (R142): the tests in the order given, the first that fails deciding. -/
def State.armChannel (s : State) (one : Bool) (kind count first last : Nat) : Result × State :=
  let ch := s.cap.channel one
  let other := s.cap.channel (!one)
  if ch.state = .capturing then (.busy, s)
  else match TriggerKind.ofCode kind with
    | none => (.badArgument, s)
    | some k =>
      if !(inRange 1 40 count) then (.badArgument, s)
      else if !(decide (first < Config.blocks) && decide (last < Config.blocks) && decide (first ≤ last)) then
        (.badArgument, s)
      else if decide (other.state ≠ .idle) && regionsOverlap first last other.first other.last then
        (.badArgument, s)
      else
        (.ok, s.modCap fun c => c.modChannel one fun h => { h with
          state := .armed, kind := k, count := count, first := first, last := last, write := first
          status := .none, disarm := false })

/-- A DISARM action (R146). -/
def State.disarmChannel (s : State) (one : Bool) : State :=
  match (s.cap.channel one).state with
  | .idle => s
  | .armed => s.endCapture one .aborted
  | .capturing =>
    if one ∈ s.cap.copies then
      s.modCap fun c => c.modChannel one fun ch => { ch with disarm := true }
    else s.endCapture one .aborted

/-- A SOFT action (R146). -/
def State.softChannel (s : State) (one : Bool) : State := s.triggerOne .soft one

/-! ## The parameter scrub (R151) -/

/-- An error strikes a word of the parameter store (log 10). -/
def Port.strike (p : Port) (u : ParamUpset) : Port :=
  if u.word < 29 then
    { p with storeErrors := (u.word, u.double) :: p.storeErrors.filter fun e => decide (e.1 ≠ u.word) }
  else p

/-- The scrub from word `j` on, `n` words to go (R151): single-bit errors corrected and counted; at a
double-bit error PARAMETER_ECC is reported, the flag cleared, and the scrub ends. -/
def State.scrubFrom (s : State) (j : Nat) : Nat → State
  | 0 => s
  | n + 1 =>
    match s.port.storeErrors.find? fun e => decide (e.1 = j) with
    | none => s.scrubFrom (j + 1) n
    | some (_, false) =>
      ((s.modPort fun p => { p with
        storeErrors := p.storeErrors.filter fun e => decide (e.1 ≠ j) }).countCorrected).scrubFrom (j + 1) n
    | some (_, true) =>
      (s.modFm fun m => { m with scrub := false }).report .parameterEcc none (some (2 * j))

/-- The fault monitor's boundary work (R151). -/
def State.faultBoundary (s : State) : State := if s.fm.scrub then s.scrubFrom 0 29 else s

end Sys2Proof.Machine
end

