-- ==== Sys2Proof/Machine/Reset.lean ====
section
/-! DEFINITION. The resets (R16, R156, R157): what each block holds while a reset is held, and what the
release brings. -/

namespace Sys2Proof.Machine

/-- A block copy in progress at a warm reset is abandoned where it stands: the words already moved stay,
the others keep their earlier contents (R147, log 13). -/
def State.abandonCopy (s : State) : State :=
  match s.cap.copies with
  | [] => s
  | one :: _ =>
    { s.modCap fun c => { c with
        memory := Memory.writeWords (Config.wordMoved s.draws) (c.channel one).write 0 c.completed c.memory }
      with draws := s.draws + 1 }

/-- The timebase while a warm reset is held: the cycle counter is kept (R16). -/
def Timebase.warm (t : Timebase) : Timebase := { Timebase.reset with counter := t.counter }

/-- The capture channels after a warm reset: the capture memory is kept (R147). -/
def Capture.warm (c : Capture) : Capture := { Capture.reset with memory := c.memory }

/-- The episode ring after a warm reset: the records and both counts are kept (R140). -/
def Episodes.warm (e : Episodes) : Episodes := { e with current := none, selection := 0xFFFF#16 }

/-- The fault monitor after a warm reset: the record and the ECC corrected count are kept (R155). -/
def FaultMonitor.warm (m : FaultMonitor) : FaultMonitor := { m with scrub := false }

/-- The service port while a reset is held: no event pends and no window runs; the straps last sampled
stand until the release samples them afresh (R157, R165). -/
def Port.held (station count : BitVec 3) : Port :=
  { Port.reset with pending := 0, window := false, station := station, countStrap := count }

/-- A warm reset is asserted (R16, R156): the open record is closed as ABORTED_RESET with no event
(R140), a copy is abandoned (R147), and every block takes its warm-reset values. A cold reset that is
held goes on being held. -/
def State.assertWarm (s : State) : State :=
  match s.held with
  | .cold => s
  | .warm => s
  | .released =>
    let s1 := (s.closeQuietly .abortedReset).abandonCopy
    { State.reset with
      held := .warm
      tb := s1.tb.warm
      su := .atRelease s1.own s1.port.countStrap.toNat
      ep := s1.ep.warm
      cap := s1.cap.warm
      fm := s1.fm.warm
      port := Port.held s1.port.station s1.port.countStrap
      draws := s1.draws
      pending := s1.pending }

/-- A cold reset is taken at power-up and held (R156): every block takes its cold-reset values. The station
number and the count strap value are held at 0 until the release samples the straps (R157 gives them no
value here, and 0 is the model's choice: log 37). -/
def State.assertCold (s : State) : State :=
  { State.reset with
    held := .cold, port := Port.held 0 0, draws := s.draws, pending := s.pending }

/-- The cycle counter at a release (R15, R16): 0 after a cold reset, the held value plus 1 after a warm
one. -/
def releasedCounter (h : ResetHold) (n : Stamp) : Stamp :=
  match h with
  | .warm => n + 1
  | .cold => 0
  | .released => n

/-- The reset that is held is released (R157, R158): the straps are sampled, which name the own slot and
decide SOLO; the start window starts; RESTARTED is pending; the first cycle takes its number. -/
def State.release (s : State) (station count : BitVec 3) : State :=
  match s.held with
  | .released => s
  | .warm | .cold =>
    { s with
      held := .released
      tb := { s.tb with counter := releasedCounter s.held s.tb.counter }
      su := .atRelease station.toNat count.toNat
      port := { s.port with
        station := station, countStrap := count, window := true
        pending := Event.restarted.bit, enable := Event.restarted.bit } }

end Sys2Proof.Machine
end

