-- ==== Sys2Proof/Machine/Port.lean ====
section
/-! DEFINITION. The service port (chapter 12): the item images, the writes, the parameter commit, and a
transaction as clocked (R159). -/

namespace Sys2Proof.Machine

/-! ## Item images (Tables 12-2.3 to 12-2.5, 9-2.1, 11-4.1) -/

/-- Item 0x01 STATUS (Table 12-2.4). -/
def State.statusImage (s : State) : List Byte :=
  [byteOf s.ctl.service.code, byteOf s.tb.lock.code,
   byteOf (16 * s.templateState.code + s.tmpl.ring.length),
   byteOf (16 * s.en.band.code + s.ctl.bypass.code)]
    ++ twoBytes s.su.share ++ [byteOf s.su.count,
   byteOf (bit s.su.isolated + 2 * bit s.solo + 4 * bit s.port.committed + 16 * s.line.state.code),
   s.port.failedOffset, byteOf s.line.tec]
    ++ twoBytes s.line.recErrors ++ twoBytes s.line.dropped ++ twoBytes s.en.credit ++ twoBytes s.en.phi
    ++ fourBytes s.tb.counter.toNat ++ twoBytes s.ep.next.toNat ++ twoBytes s.ep.overwrites
    ++ [byteOf (s.port.station.toNat + 8 * s.port.countStrap.toNat)] ++ twoBytes s.fm.corrected
    ++ [byteOf s.su.ownAge, byteOf s.det.restoreCount, s.port.fingerprint]

/-- Items 0x08 to 0x0F, PEER0 to PEER7 (Table 12-2.5). -/
def PeerEntry.image (e : PeerEntry) : List Byte :=
  [byteOf e.state.code, byteOf (bit e.fpMatch), byteOf e.reported.code,
   (match e.seq with | some n => byteOf n | none => 0xFF#8)]
    ++ twoBytes e.credit ++ [e.flags] ++ twoBytes e.share
    ++ [e.episode, byteOf e.missed, byteOf e.age,
        byteOf (bit e.refreshed.credit + 2 * bit e.refreshed.flags + 4 * bit e.refreshed.share
          + 8 * bit e.refreshed.episode), 0, 0, 0]

/-- A record's 32 bytes (Table 9-2.1), with the energy used to be shown. -/
def Record.image (r : Record) (energy : Nat) : List Byte :=
  twoBytes r.number.toNat
    ++ [byteOf r.outcome.code, byteOf (bit r.hasElapsed + 2 * bit r.hasFault + 4 * bit r.hasClamps)]
    ++ fourBytes r.stamp.toNat
    ++ [byteOf r.slot, byteOf (phaseBits r.phases + 128 * bit r.peer), byteOf r.depth, byteOf r.minMembers]
    ++ twoBytes r.duration ++ twoBytes r.full ++ twoBytes r.envelope ++ twoBytes energy
    ++ twoBytes r.peakShare
    ++ [byteOf r.retained.a, byteOf r.retained.b, byteOf r.retained.c, byteOf r.disagreements]
    ++ twoBytes (if r.hasElapsed then r.elapsed else 0)
    ++ [byteOf (match r.fault with | some k => k.code | none => 0),
        byteOf r.clamps.cabinet, byteOf r.clamps.module, byteOf r.clamps.foldBack]

/-- The record a read of EPISODE resolves to (R139). -/
def State.chosenRecord (s : State) : Option Record :=
  if s.ep.selection = 0xFFFF#16 then s.ep.records.getLast?
  else s.ep.records.find? fun r => decide (r.number = s.ep.selection)

/-- Item 0x11 EPISODE (R139): the chosen record as it stands, an open one with its energy used formed at
the capture; none chosen gives NOT_HELD and zeros. -/
def State.episodeImage (s : State) : Result × List Byte :=
  match s.chosenRecord with
  | some r => (.ok, r.image (if r.outcome = .opened then s.energyUsed else r.energy))
  | none => (.notHeld, List.replicate 32 0)

/-- Item 0x04 FIRST_FAULT (Table 11-4.1). -/
def FirstFault.image (f : FirstFault) : List Byte :=
  [byteOf (match f.kind with | some k => k.code | none => 0), byteOf f.service.code]
    ++ fourBytes f.cycle.toNat ++ [byteOf f.slot, byteOf (phaseCode f.phase)]
    ++ twoBytes (f.detail.getD 0) ++ [byteOf (bit f.detail.isSome), byteOf f.later]

/-- Items 0x20 and 0x21, CAPTURE_CONTROL (section 12-2). -/
def Channel.image (c : Channel) : List Byte :=
  [byteOf c.state.code, byteOf c.status.code, byteOf c.kind.code, byteOf c.count, byteOf c.first,
   byteOf c.last, byteOf c.write, byteOf c.cycle.toNat]

/-- The block and word that word `j` of a CAPTURE_DATA read comes from (R145): past word 383 the next
block, past block 39 block 0. -/
def Capture.wordAfter (c : Capture) (j : Nat) : Nat × Nat :=
  let n := (Config.blockWords * c.block + c.offset + j) % (Config.blockWords * Config.blocks)
  (n / Config.blockWords, n % Config.blockWords)

/-- The block being written, if a copy is in progress (R145). -/
def Capture.busyBlock (c : Capture) : Option Nat := c.copies.head?.map fun one => (c.channel one).write

/-- A read of `words` words would take one from a block being written (R145). -/
def Capture.readBusy (c : Capture) (words : Nat) : Bool :=
  (List.range words).any fun j => decide (c.busyBlock = some (c.wordAfter j).1)

/-- The bytes of `words` words from the selected block and word on (R145). -/
def Capture.words (c : Capture) (words : Nat) : List Byte :=
  (List.range words).flatMap fun j => c.memory.wordBytes (c.wordAfter j).1 (c.wordAfter j).2

/-- The offset advances by the number of words read (R145). A read that reaches or passes word 383 moves the
selected block too, to the block and word that follow the last one read (the model's choice: log 36). -/
def Capture.advance (c : Capture) (words : Nat) : Capture :=
  { c with block := (c.wordAfter words).1, offset := (c.wordAfter words).2 }

/-- A read of CAPTURE_DATA of `n` bytes (R145): its result, its bytes, and the state after it. -/
def State.captureImage (s : State) (n : Nat) : Result × List Byte × State :=
  if s.cap.readBusy (n / 2) then (.busy, List.replicate n 0, s)
  else (.ok, s.cap.words (n / 2), s.modCap fun c => c.advance (n / 2))

/-! ## Writes (R139, R154, R160 to R162, R164) -/

/-- A write of EVENTS (R162, R163): the bits written 1 are cleared; clearing a pending bit starts the
release gap. -/
def State.writeEvents (s : State) (v : BitVec 16) : Result × State :=
  (.ok, s.modPort fun p => { p with
    pending := p.pending &&& ~~~v, gap := p.gap || decide (p.pending &&& v ≠ 0) })

/-- A write of EVENT_ENABLE (R162). -/
def State.writeEnable (s : State) (v : BitVec 16) : Result × State :=
  (.ok, s.modPort fun p => { p with enable := v })

/-- A write of FIRST_FAULT (R154). -/
def State.clearFirstFault (s : State) : Result × State :=
  (.ok, s.modFm fun m => { m with first := .empty })

/-- A write of EPISODE_SELECT (R139). -/
def State.selectEpisode (s : State) (v : BitVec 16) : Result × State :=
  (.ok, s.modEp fun e => { e with selection := v })

/-- The staging area after data bytes placed from a byte on, cut at byte 63 (R160). -/
def stageBytes : List Byte → Nat → List Byte → List Byte
  | area, _, [] => area
  | area, k, b :: rest => stageBytes (area.set k b) (k + 1) rest

/-- A write of PARAM_STAGE_LO or PARAM_STAGE_HI (R160). -/
def State.stage (s : State) (high : Bool) (data : List Byte) : Result × State :=
  if s.ctl.service = .start then
    (.ok, s.modPort fun p => { p with staging := stageBytes p.staging (if high then 32 else 0) data })
  else (.refusedState, s)

/-- What each block derives when a block of 58 bytes is taken (R161): the store and its fingerprint, the
recogniser starting disarmed (R7), the thresholds (R32), the trip level (R77), the full credit (R82) and
the scrub flag (R151); the start window stops and the service state becomes SYNCING. -/
def State.takeBlock (s : State) (block : List Byte) (crc : Byte) : State :=
  let p := Params.ofBlock block
  let s1 := s.modPort fun q => { q with
    store := block, storeErrors := [], params := p, fingerprint := crc, committed := true
    failedOffset := 0xFF#8, window := false }
  let s2 := s1.modTb fun t => { t with armed := false, lastCrossing := none }
  let s3 := s2.modDet fun d => { d with
    qOn := 8 * p.dOn ^ 2, qOff := 8 * p.dOff ^ 2, qJoin := 2 * p.dOn ^ 2 }
  let s4 := s3.modDp fun d => { d with tripLevel := p.iTrip }
  let s5 := s4.modEn fun e => { e with full := p.fullCredit }
  (s5.modFm fun m => { m with scrub := true }).setService .syncing

/-- The offset STATUS byte 8 shows after a commit step that failed. -/
def State.failCommit (s : State) (offset : Nat) : State :=
  s.modPort fun p => { p with failedOffset := byteOf offset }

/-- A write of PARAM_COMMIT (R161). -/
def State.commit (s : State) (crc : Byte) : Result × State :=
  if s.ctl.service = .start then
    let block := s.port.staging.take 58
    if crc8 block ≠ crc then (.crcMismatch, s.failCommit 0xFF)
    else match failedField block with
      | some k => (.badParameter, s.failCommit k)
      | none => (.ok, s.takeBlock block crc)
  else (.refusedState, s)

/-- A write of CAPTURE_SELECT (section 12-2). -/
def State.selectCapture (s : State) (block spare offset : Nat) : Result × State :=
  if Config.blocks ≤ block ∨ Config.blockWords ≤ offset ∨ spare ≠ 0 then (.badArgument, s)
  else (.ok, s.modCap fun c => { c with block := block, offset := offset })

/-- A write of CAPTURE_CONTROL0 or 1: the action of byte 0 (section 12-2). -/
def State.captureAction (s : State) (one : Bool) (d : List Byte) : Result × State :=
  match byteAt d 0 with
  | 1 => s.armChannel one (byteAt d 1) (wordAt d 2) (byteAt d 4) (byteAt d 5)
  | 2 => (.ok, s.disarmChannel one)
  | 3 => (.ok, s.softChannel one)
  | _ => (.badArgument, s)

/-! ## A transaction (R159) -/

/-- Bytes 0 and 1 that a transaction returns (Table 12-2.1): the result of the one before, and the low
byte of the pending-and-enabled events. -/
def State.header (s : State) : List Byte := [byteOf s.port.result.code, byteOf s.attention.toNat]

/-- A transaction ends with a result, having returned some bytes. -/
def State.endWith (s : State) (r : Result) (out : List Byte) : State :=
  s.modPort fun p => { p with result := r, out := out }

/-- A write in a transaction of `n` data bytes is taken at the rise of chip select (R159); none is taken while a reset is
held. -/
def State.serveWrite (s : State) (n : Nat) (f : State → Result × State) : State :=
  if s.held = .released then (f s).2.endWith (f s).1 (s.header ++ List.replicate n 0) else s

/-- A read of `n` data bytes, whose image was captured at the end of byte 1, in a transaction of `clocked`
data bytes, of which those beyond the declared length read as 0 (R159); none is taken while a reset is
held. -/
def State.serveRead (s : State) (n clocked : Nat) (f : State → Result × List Byte × State) : State :=
  if s.held = .released then
    (f s).2.2.endWith (f s).1 (s.header ++ (f s).2.1.take n ++ List.replicate (clocked - n) 0)
  else s

/-- A WARM_RESET request of `n` data bytes (R164): taken in every service state at the rise of chip
select, by when the transaction has returned its bytes (R159). -/
def State.requestWarmReset (s : State) (n : Nat) : State :=
  if s.held = .released then
    s.assertWarm.modPort fun p => { p with out := s.header ++ List.replicate n 0 }
  else s

/-- A transaction cut short (R159): FRAME_ERROR and its event, no other effect; `out` is what had been
shifted out. -/
def State.frameErrorWith (s : State) (out : List Byte) : State :=
  (s.raise .serviceFrameError).endWith .frameError out

/-- The item numbers of Table 12-2.3. -/
def itemKnown (item : Nat) : Bool :=
  item ∈ [0x01, 0x02, 0x03, 0x04, 0x08, 0x09, 0x0A, 0x0B, 0x0C, 0x0D, 0x0E, 0x0F, 0x10, 0x11, 0x18, 0x19,
    0x1A, 0x20, 0x21, 0x22, 0x23, 0x30]

/-- The most bytes a read of an item allows, 0 when it allows no read (Table 12-2.3). -/
def readLimit (item : Nat) : Nat :=
  if item = 0x01 ∨ item = 0x11 ∨ item = 0x18 ∨ item = 0x19 ∨ item = 0x23 then 32
  else if item = 0x02 ∨ item = 0x03 ∨ item = 0x10 then 2
  else if item = 0x04 then 12
  else if 0x08 ≤ item ∧ item ≤ 0x0F then 16
  else if item = 0x20 ∨ item = 0x21 then 8
  else if item = 0x22 then 4
  else 0

/-- A read of `n` bytes is allowed for an item (Table 12-2.3). -/
def readAllowed (item n : Nat) : Bool :=
  decide (1 ≤ n) && decide (n ≤ readLimit item) && (decide (item ≠ 0x23) || decide (n % 2 = 0))

/-- A write of `n` bytes is allowed for an item (Table 12-2.3). -/
def writeAllowed (item n : Nat) : Bool :=
  if item = 0x02 ∨ item = 0x03 ∨ item = 0x10 then decide (n = 2)
  else if item = 0x04 ∨ item = 0x1A ∨ item = 0x30 then decide (n = 1)
  else if item = 0x18 ∨ item = 0x19 then decide (1 ≤ n) && decide (n ≤ 32)
  else if item = 0x20 ∨ item = 0x21 then decide (n = 6)
  else if item = 0x22 then decide (n = 4)
  else false

/-- The image of an item (Table 12-2.3), for a read it allows. -/
def State.readItem (s : State) (item n : Nat) : Result × List Byte × State :=
  match item with
  | 0x01 => (.ok, s.statusImage, s)
  | 0x02 => (.ok, twoBytes s.port.pending.toNat, s)
  | 0x03 => (.ok, twoBytes s.port.enable.toNat, s)
  | 0x04 => (.ok, s.fm.first.image, s)
  | 0x10 => (.ok, twoBytes s.ep.selection.toNat, s)
  | 0x11 => (s.episodeImage.1, s.episodeImage.2, s)
  | 0x18 => (.ok, s.port.staging, s)
  | 0x19 => (.ok, s.port.staging.drop 32, s)
  | 0x20 => (.ok, s.cap.ch0.image, s)
  | 0x21 => (.ok, s.cap.ch1.image, s)
  | 0x22 => (.ok, [byteOf s.cap.block, 0] ++ twoBytes s.cap.offset, s)
  | 0x23 => s.captureImage n
  | k => (.ok, (s.su.entry (k - 8)).image, s)

/-- What a write an item allows does (Table 12-2.3). WARM_RESET is taken by itself, see `runBytes`. -/
def State.writeItem (s : State) (item : Nat) (d : List Byte) : Result × State :=
  match item with
  | 0x02 => s.writeEvents (BitVec.ofNat 16 (wordAt d 0))
  | 0x03 => s.writeEnable (BitVec.ofNat 16 (wordAt d 0))
  | 0x04 => s.clearFirstFault
  | 0x10 => s.selectEpisode (BitVec.ofNat 16 (wordAt d 0))
  | 0x18 => s.stage false d
  | 0x19 => s.stage true d
  | 0x1A => s.commit (d.getD 0 0)
  | 0x20 => s.captureAction false d
  | 0x21 => s.captureAction true d
  | 0x22 => s.selectCapture (byteAt d 0) (byteAt d 1) (wordAt d 2)
  | 0x30 =>
    match byteAt d 0 with
    | 1 => s.requestWithdraw
    | 2 => s.requestReturn
    | _ => (.badArgument, s)
  | _ => (.badArgument, s)

/-- The declared length of a control byte (Table 12-2.1). -/
def declaredLength (control : Byte) : Nat := control.toNat % 32 + 1

/-- The read flag of a control byte. -/
def readFlag (control : Byte) : Bool := decide (128 ≤ control.toNat)

/-- Bits 6 and 5 of a control byte are both 0. -/
def controlClear (control : Byte) : Bool := decide (control.toNat / 32 % 4 = 0)

/-- The bytes a read would shift out, for a transaction cut short in its data. -/
def State.shiftedImage (s : State) (item n : Nat) (control : Byte) : List Byte :=
  if itemKnown item && controlClear control && readFlag control && readAllowed item n then
    (s.readItem item n).2.1 ++ List.replicate n 0
  else List.replicate n 0

/-- A transaction whose chip select rises before it is complete (R159). -/
def cutShort (bytes : List Byte) : Bool :=
  decide (bytes.length < 2) || decide (bytes.length < 2 + declaredLength (bytes.getD 1 0))

/-- A transaction that is not cut short (R159): the item and argument checks, then the item's own read or
write. Data bytes beyond the declared length are ignored on a write, and 0 is returned in them. -/
def State.runBytes (s : State) (item : Nat) (control : Byte) (data : List Byte) : State :=
  let n := declaredLength control
  let zeros := List.replicate data.length (0 : Byte)
  if !itemKnown item then s.endWith .noItem (s.header ++ zeros)
  else if !controlClear control then s.endWith .badArgument (s.header ++ zeros)
  else if readFlag control then
    if readAllowed item n then s.serveRead n data.length fun t => t.readItem item n
    else s.endWith .badArgument (s.header ++ zeros)
  else if writeAllowed item n then
    if item = 0x30 ∧ byteAt data 0 = 3 then s.requestWarmReset data.length
    else s.serveWrite data.length fun t => t.writeItem item (data.take n)
  else s.endWith .badArgument (s.header ++ zeros)

/-- A transaction as its bytes are clocked (R159); none is taken while a reset is held. -/
def State.transact (s : State) (bytes : List Byte) : State :=
  if s.held ≠ .released then s
  else if cutShort bytes then
    s.frameErrorWith ((s.header ++ s.shiftedImage (byteAt bytes 0) (declaredLength (bytes.getD 1 0))
      (bytes.getD 1 0)).take bytes.length)
  else s.runBytes (byteAt bytes 0) (bytes.getD 1 0) (bytes.drop 2)

end Sys2Proof.Machine
end

