-- ==== Sys2Proof/Machine/Timebase.lean ====
section
/-! DEFINITION. The sense interface and the cycle timebase (chapter 1): the sample set, the slot grid,
the crossing recogniser, the lock logic and its boundary work. -/

namespace Sys2Proof.Machine

/-! ## The slot grid (R3) -/

/-- The time of slot `j` of the cycle in progress: the span from the reference instant to the next slot 0,
times the slots from the reference to `j`, over the slots from the reference to the next slot 0, floored. -/
def Timebase.slotTime (t : Timebase) (j : Nat) : Stamp :=
  t.refTime + BitVec.ofNat 32
    ((t.nextSlot0 - t.refTime).toNat * (j - t.refSlot) / (Config.slots - t.refSlot))

/-- The period in force while the timebase free-runs: T_nom once a block is committed (R7). -/
def State.freePeriod (s : State) : Nat :=
  if s.port.committed then s.port.params.nominalPeriod else Config.freePeriod

/-- A new cycle is scheduled: its slot 0 is the reference instant, and the next slot 0 is set T later, or
where an early in-window crossing has set it (R3, R10), in COAST too if lock has become COAST since that
crossing (DESIGN CHOICE, log 38). -/
def Timebase.startCycle (t : Timebase) : Timebase :=
  { t with
    slot0 := t.nextSlot0, refTime := t.nextSlot0, refSlot := 0
    nextSlot0 := t.afterNext.getD (t.nextSlot0 + BitVec.ofNat 32 t.period), afterNext := none }

/-! ## The sample set (R1, R2, R5) -/

/-- The codes of a sample replace those held (R1, R2); the next sample is that of the next slot. -/
def Timebase.hold (t : Timebase) (v : SenseInput) : Timebase :=
  { t with
    x := v.x.map senseCode, i := v.i.map senseCode, vdc := linkCode v.vdc
    feedbackOpen := v.feedbackHigh
    slot := t.nextSlot, cycle := t.counter, nextSlot := t.nextSlot + 1, time := t.slotTime t.nextSlot
    acc := t.acc.zip (fun a x => a + square (senseCode x)) v.x
    lockHeld := if t.nextSlot = 0 then decide (t.lock = .locked) else t.lockHeld }

/-! ## The crossing recogniser (R6) -/

/-- The crossing the sample held gives, if the recogniser is armed and the code is 0 or above: its
interpolated time. -/
def Timebase.crossing (t : Timebase) : Option Stamp :=
  if t.armed && decide (0 ≤ t.x.a) then
    some (t.prevTime + BitVec.ofInt 32
      ((t.time - t.prevTime).toNat * (-t.prevCode) / (t.x.a - t.prevCode)))
  else none

/-- The recogniser after a sample: armed by a code below −512 once a block is committed, disarmed by a
recognition; the sample is kept as the previous one (R6, R7). -/
def Timebase.recognise (t : Timebase) (active : Bool) : Timebase :=
  { t with
    armed := active && (decide (t.x.a < -512) || (t.armed && decide (t.x.a < 0)))
    prevCode := t.x.a, prevTime := t.time }

/-! ## The lock logic (section 1-5) -/

/-- A change of lock state: event LOCK_CHANGE, and the cycle is no longer lock-held (R4, R14). -/
def State.changeLock (s : State) (l : LockState) : State :=
  (s.modTb fun t => { t with lock := l, lockHeld := false }).raise .lockChange

/-- An interval within the good range of SEARCH (section 1-5). -/
def Params.good (p : Params) (interval : Nat) : Bool :=
  inRange (p.nominalPeriod - p.goodRange) (p.nominalPeriod + p.goodRange) interval

/-- An interval clamped to the good range (R10). -/
def Params.clampGood (p : Params) (interval : Nat) : Nat :=
  max (p.nominalPeriod - p.goodRange) (min (p.nominalPeriod + p.goodRange) interval)

/-- The half-width of the acceptance window (section 1-5). -/
def State.windowHalf (s : State) : Int := (s.tb.period * s.port.params.tol / 1000 : Nat)

/-- A crossing time lies inside the open acceptance window (R9). -/
def State.inWindow (s : State) (x : Stamp) : Bool :=
  decide (-s.windowHalf ≤ timeDiff x s.tb.windowCentre)
    && decide (timeDiff x s.tb.windowCentre ≤ s.windowHalf)

/-- The samples still to come of the cycle in progress are spread to a new next slot 0, from the sample
just taken (R3); lock becoming COAST later in the cycle does not undo it (DESIGN CHOICE, log 38). -/
def Timebase.spreadTo (t : Timebase) (next : Stamp) : Timebase :=
  { t with refTime := t.time, refSlot := t.slot, nextSlot0 := next }

/-- The interval from the last crossing time to a crossing, if one is held. -/
def Timebase.interval (t : Timebase) (x : Stamp) : Option Nat :=
  t.lastCrossing.map fun y => (x - y).toNat

/-- A crossing judged in SEARCH (R8). -/
def State.searchCrossing (s : State) (x : Stamp) : State :=
  match s.tb.interval x with
  | none => s.modTb fun t => { t with lastCrossing := some x }
  | some n =>
    if s.port.params.good n then
      if s.port.params.c ≤ s.tb.confirm + 1 then
        (s.modTb fun t =>
          { (t.spreadTo (x + BitVec.ofNat 32 n)) with
            period := n, confirm := 0, lastCrossing := some x
            windowCentre := x + BitVec.ofNat 32 n }).changeLock .locked
      else s.modTb fun t => { t with confirm := t.confirm + 1, lastCrossing := some x }
    else s.modTb fun t => { t with confirm := 0, lastCrossing := some x }

/-- An in-window crossing trims the period and realigns slot 0 (R10). A crossing of the slot 0 still to
come leaves that slot 0 where it is and sets the one after it. The window closes on the crossing. -/
def State.trim (s : State) (x : Stamp) : State :=
  let period := match s.tb.interval x with
    | some n => s.port.params.clampGood n
    | none => s.tb.period
  let next := x + BitVec.ofNat 32 period
  s.modTb fun t =>
    let t1 := if t.windowCentre = t.nextSlot0 then { t with afterNext := some next }
      else t.spreadTo next
    { t1 with period := period, lastCrossing := some x, windowCentre := next }

/-- LOCKED becomes COAST on a missing or out-of-window crossing (R11, R14). A time that a crossing has set
for a slot 0 still to come stays set, and only the slot 0 after it falls one held period after the one
before: that of the next slot 0, set in this same cycle by an in-window crossing of the cycle or by the
acquisition of lock (R8, R10), and that of the slot 0 after the next one, set by an early in-window crossing
(R10). R8 and R10 give those times, and R12 gives others, one held period after the slot 0 before; keeping
what was set is the model's choice (DESIGN CHOICE, log 38). -/
def State.enterCoast (s : State) : State :=
  ((s.modTb fun t => { t with confirm := 0, coast := 0 }).changeLock .coast).giveTrigger .lockLoss

/-- The window closes without realignment: the next one is centred on the next slot 0 of the held grid
(R9, R12). -/
def Timebase.nextWindow (t : Timebase) : Timebase :=
  { t with windowCentre := t.windowCentre + BitVec.ofNat 32 t.period }

/-- The time of the sample just taken lies after the end of the open window (R9). -/
def State.windowPassed (s : State) : Bool :=
  decide (s.windowHalf < timeDiff s.tb.time s.tb.windowCentre)

/-- The window that an out-of-window crossing leaves open closes at a sample past its end (R9, R11). -/
def State.passWindow (s : State) : State :=
  if s.windowPassed then s.modTb Timebase.nextWindow else s

/-- A crossing taken in LOCKED (R10, R11). -/
def State.lockedCrossing (s : State) (x : Stamp) : State :=
  if s.inWindow x then s.trim x else s.enterCoast.passWindow

/-- A crossing taken in COAST (R12). -/
def State.coastCrossing (s : State) (x : Stamp) : State :=
  if s.inWindow x then
    if s.port.params.c ≤ s.tb.confirm + 1 then
      ((s.trim x).modTb fun t => { t with confirm := 0 }).changeLock .locked
    else s.modTb fun t => { t.nextWindow with confirm := t.confirm + 1, lastCrossing := some x }
  else (s.modTb fun t => { t with confirm := 0 }).passWindow

/-- A recognised crossing is handed to the lock logic (R6, section 1-5). -/
def State.takeCrossing (s : State) (x : Stamp) : State :=
  match s.tb.lock with
  | .search => s.searchCrossing x
  | .locked => s.lockedCrossing x
  | .coast => s.coastCrossing x

/-- A window that closes with no crossing taken: a missing crossing (R9, R11, R12). -/
def State.testWindow (s : State) : State :=
  if s.windowPassed then
    match s.tb.lock with
    | .search => s
    | .locked => (s.modTb Timebase.nextWindow).enterCoast
    | .coast => s.modTb fun t => { t.nextWindow with confirm := 0 }
  else s

/-- The recogniser and the lock logic take the sample held (R6 to R12); both are idle before a commit
(R7). -/
def State.lockSample (s : State) : State :=
  let s1 := s.modTb fun t => t.recognise s.port.committed
  if s.port.committed then
    match s.tb.crossing with
    | some x => s1.takeCrossing x
    | none => s1.testWindow
  else s1

/-! ## The lock logic at a boundary (R12, R13) -/

/-- The coast counter reaching the coast limit: lock SEARCH at T_nom, the ring emptied, and cause LOCK,
which is no cause outside INJECTING (R13, R24). -/
def State.enterSearch (s : State) : State :=
  (((s.modTb fun t => { t with
      period := s.freePeriod, confirm := 0, lastCrossing := none }).changeLock .search).emptyRing).takeCause
    .lock

/-- The lock logic's boundary work: the coast counter and the coast limit in COAST (R12, R13); in SEARCH
the period of the new cycle is the free-running one (R7, R8). -/
def State.lockBoundary (s : State) : State :=
  match s.tb.lock with
  | .search => s.modTb fun t => { t with period := s.freePeriod }
  | .locked => s
  | .coast =>
    let s1 := s.modTb fun t => { t with coast := t.coast + 1 }
    if s.port.params.coastLimit ≤ s1.tb.coast then s1.enterSearch else s1

end Sys2Proof.Machine
end

