-- ==== Sys2Proof/Machine/Sample.lean ====
section
/-! DEFINITION. The sample event (R1): what every per-sample block does with one set of codes. -/

namespace Sys2Proof.Machine

/-- A sample event can be taken: no reset is held (R1), and the boundary is not due first (R3, R4). -/
def State.sampleDue (s : State) : Bool :=
  decide (s.held = .released) && decide (s.tb.nextSlot < Config.slots)

/-- The slot-0 sample event clears the per-cycle flags of the new cycle (R17, R33, R34, R78) and makes
the frames queued at the boundary eligible (R119). -/
def State.startFlags (s : State) : State :=
  if s.tb.nextSlot = 0 then
    (((s.modTmpl Template.clearFlags).modDet Detector.startCycle).modDp fun d =>
      { d with flags := .clear }).modLine fun l => { l with queue := l.queue.release }
  else s

/-- A set of codes arrives (R1): held by the sense interface, written into the collecting area (R17) and
into the live buffer (R141). -/
def State.holdSample (s : State) (v : SenseInput) : State :=
  let s1 := s.modTb fun t => t.hold v
  (s1.modTmpl fun t => { t with collecting := t.collecting.writeSlot s1.tb.slot s1.tb.x }).writeGrid

/-- The sample event begins: nothing has been opened or moved at it yet, and the instant of the boundary
before it is past. -/
def State.beginSample (s : State) : State := s.modInst fun _ => .rest

/-- One part of a sample event (log 8). -/
def State.samplePart (r : SampleRead) (watched : Bool) (s : State) (p : SamplePart) : State :=
  match p with
  | .template =>
    match r.double with
    | some p => (s.templateFault p).modDet fun d => { d with quiet := false }
    | none => s
  | .detector => s.testOnset
  | .controller => s.testFeedback watched
  | .chain => s.runChain r
  | .overcurrent => s.testOvercurrent
  | .energy => s.takeLink

/-- The injected flag of a sample event (R17): INJECTING as the event began or as it ended. -/
def State.markInjected (s : State) (before : Bool) : State :=
  if before || s.injecting then s.modTmpl fun t => { t with injected := true } else s

/-- The stages of a sample event before its parts are taken in some order: the sample is held, the lock
logic takes it (R6 to R12), the template memory is read (R26) and the metric is computed (R30). -/
def State.senseSample (s : State) (v : SenseInput) (ups : List TemplateUpset) : SampleRead × State :=
  let s1 := (((s.beginSample.startFlags).strikeTemplate ups).holdSample v).lockSample
  let r := s1.readSample s1.tb.slot
  (r.1, (r.2.takeMetric r.1).countSample)

/-- SAMPLE_EVENT (R1). The uncommanded-opening test runs once 64 sample events have been taken before
this one (R56). -/
def State.sampleEvent (s : State) (v : SenseInput) (ups : List TemplateUpset) (order : List SamplePart) :
    State :=
  if s.sampleDue then
    let r := s.senseSample v ups
    ((takeOrder order sampleParts).foldl (State.samplePart r.1 s.ctl.watch) r.2).markInjected s.injecting
  else s

end Sys2Proof.Machine
end

