-- ==== Sys2Proof/Machine/Boundary.lean ====
section
/-! DEFINITION. The cycle boundary (R4): what it publishes, and the work every block does at it. -/

namespace Sys2Proof.Machine

/-- What the boundary carries (R4), and the flags of the completed cycle that its blocks read whatever
order they take it in (R33, R34, R79). -/
structure BoundaryData where
  completed : Stamp
  lx : PerPhase Nat
  lockHeld : Bool
  sag : PerPhase Bool
  flags : ClampFlags
  quiet : Bool
  /-- The Vdc of the slot-63 sample (R88). -/
  vdc : Nat
  deriving DecidableEq, Repr

/-- The data of the boundary now due. -/
def State.boundaryData (s : State) : BoundaryData :=
  ⟨s.tb.counter, s.tb.acc, s.tb.lockHeld, s.det.sag, s.dp.flags, s.det.quiet, s.tb.vdc⟩

/-- A boundary can be taken: no reset is held, and slot 63 has been taken (R4). -/
def State.boundaryDue (s : State) : Bool :=
  decide (s.held = .released) && decide (s.tb.nextSlot = Config.slots)

/-- What the boundary publishes (R4, R5, R33, R79, R141): the level sums, the sag flags and the clamp flags
of the completed cycle; the cycle counter takes the number of the new cycle. -/
def State.publish (s : State) (b : BoundaryData) : State :=
  let s1 := s.modTb fun t => { t with
    lx := b.lx, acc := .all 0, counter := t.counter + 1, nextSlot := 0 }
  let s2 := s1.modDet fun d => { d with published := b.sag, sag := .all false }
  let s3 := s2.modDp fun d => { d with published := b.flags, flags := .clear }
  (s3.modCap Capture.swap).modInst fun _ =>
    { boundary := some b.completed, work := some b.completed, captured := false, opened := false
      moved := false }

/-- One block's boundary work. -/
def State.boundaryPart (b : BoundaryData) (s : State) (p : BoundaryPart) : State :=
  match p with
  | .timebase => s.lockBoundary
  | .template => s.templateBoundary b.lockHeld b.lx
  | .detector => s.detectorBoundary b.quiet
  | .controller => s.testReady
  | .planner => s.plannerBoundary b.completed b.lx b.vdc
  | .share => s.shareBoundary
  | .line => s.lineBoundary
  | .episodes => s.episodeBoundary b.sag b.flags
  | .capture => s.captureBoundary b.completed
  | .fault => s.faultBoundary

/-- The boundary's work ends. -/
def State.endWork (s : State) : State := s.modInst fun i => { i with work := none }

/-- CYCLE_BOUNDARY (R4): block copies still outstanding end (log 14), the boundary publishes, every block
takes it in some order, and the new cycle is scheduled (R3). -/
def State.cycleBoundary (s : State) (ups : List TemplateUpset) (pups : List ParamUpset)
    (order : List BoundaryPart) : State :=
  if s.boundaryDue then
    let s1 := s.endCopies s.cap.copies.length
    let b := s1.boundaryData
    let s2 := ((s1.publish b).strikeTemplate ups).modPort fun p => pups.foldl Port.strike p
    (((takeOrder order boundaryParts).foldl (State.boundaryPart b) s2).modTb Timebase.startCycle).endWork
  else s

end Sys2Proof.Machine
end

