-- ==== Sys2Proof/Machine/Counters.lean ====
section
/-! DEFINITION. The commands that name a counter or a timer reaching its end. A counter that the sample
event or the boundary moves is taken inside that event, as the rules tell it; its own command finds the
condition on the state and performs the same operation while the condition stands (log 7). The three
timers of the service port and the copier run on the clock, and their commands are their expiry
(log 19). -/

namespace Sys2Proof.Machine

/-- The event is taken only while no reset is held (R1, R156; log 6). -/
def State.whenRunning (s : State) (f : State → State) : State :=
  if s.held = .released then f s else s

/-- The operation is part of the work of the boundary last taken, until the next sample event (log 7). -/
def State.atBoundary (s : State) (f : State → State) : State :=
  s.whenRunning fun t =>
    match t.inst.boundary with
    | some n => (f (t.modInst fun i => { i with work := some n })).endWork
    | none => t

/-! ## The counters of a boundary -/

/-- The restore count stands at H in INJECTING (R42). -/
def State.riddenStands (s : State) : Bool :=
  s.injecting && decide (s.det.restoreCount = s.port.params.h)

/-- RIDDEN (R42): the cause RIDDEN is raised to the module state controller. -/
def execRidden (s : State) : Host.Outcome State Fault Refusal :=
  .next (s.atBoundary fun t => if t.riddenStands then t.takeCause .ridden else t)

/-- PEER_LOSS (R101): a PRESENT entry whose age has reached L becomes LOST. -/
def execPeerLoss (station : BitVec 3) (s : State) : Host.Outcome State Fault Refusal :=
  .next (s.atBoundary fun t =>
    if t.port.committed && t.entryExpired station.toNat then t.loseEntry station.toNat else t)

/-- ISOLATION (R105): the silence counter having reached L, the station becomes ISOLATED. -/
def execIsolation (s : State) : Host.Outcome State Fault Refusal :=
  .next (s.atBoundary fun t => if t.port.committed && t.isolationDue then t.isolate else t)

/-- The station is onset-barred at the boundary, and no frame of a peer has come since (R102, R106). -/
def State.barredStands (s : State) : Bool :=
  s.port.committed && s.barred && decide (s.su.silence ≠ 0)

/-- What onset-barring brings at a boundary (R107, R110): a share of 0 where the boundary sets one, and
the cause LINE in INJECTING. -/
def State.barShare (s : State) : State :=
  (if s.injecting || decide (s.ctl.service = .standby) then s.setShare else s).testLine

/-- ONSET_BARRED (R106): the own transmit age having reached L bars the station. The bar itself is read
from the age wherever it is asked for; the command brings its effects at the boundary. -/
def execOnsetBarred (s : State) : Host.Outcome State Fault Refusal :=
  .next (s.atBoundary fun t => if t.barredStands then t.barShare else t)

/-- STATUS_THROTTLE (R121): the throttle counter standing at 0 queues a STATUS frame. -/
def execStatusThrottle (s : State) : Host.Outcome State Fault Refusal :=
  .next (s.atBoundary fun t => if t.port.committed then t.queueStatus else t)

/-- SILENT_TIMER_EXPIRY (R126, R127): the silent timer having reached 0. -/
def execSilentTimerExpiry (s : State) : Host.Outcome State Fault Refusal :=
  .next (s.whenRunning fun t =>
    if t.line.silentRuns && decide (t.line.silentTimer = 0) then t.endSilence else t)

/-- The coast counter has reached the coast limit (R13). -/
def State.coastStands (s : State) : Bool :=
  decide (s.tb.lock = .coast) && decide (s.port.params.coastLimit ≤ s.tb.coast)

/-- The new cycle, of which no sample has been taken, is scheduled anew on the period in force (R3). -/
def Timebase.reschedule (t : Timebase) : Timebase :=
  { t with nextSlot0 := t.slot0 + BitVec.ofNat 32 t.period, afterNext := none }

/-- COAST_LIMIT_REACHED (R13): lock becomes SEARCH, and the period of the new cycle is T_nom. -/
def execCoastLimitReached (s : State) : Host.Outcome State Fault Refusal :=
  .next (s.atBoundary fun t =>
    if t.coastStands then t.enterSearch.modTb Timebase.reschedule else t)

/-! ## The counters of a sample event -/

/-- The opening bound has run out with the feedback still CLOSED (R51). -/
def State.openFailStands (s : State) : Bool :=
  decide (s.ctl.bypass = .opening) && decide (s.ctl.timer = 0) && !s.tb.feedbackOpen

/-- BYPASS_OPEN_FAIL (R51): reported to the fault monitor, which classes it TRIP. -/
def execBypassOpenFail (s : State) : Host.Outcome State Fault Refusal :=
  .next (s.whenRunning fun t => if t.openFailStands then t.report .bypassOpenFail none none else t)

/-- The closing bound has run out with the feedback still OPEN, and that has not been reported (R53,
R58). -/
def State.closeFailStands (s : State) : Bool :=
  decide (s.ctl.bypass = .closing) && decide (s.ctl.timer = 0) && !s.ctl.closeFailed && s.tb.feedbackOpen

/-- BYPASS_CLOSE_FAIL (R53, R58): reported once for a closing. -/
def execBypassCloseFail (s : State) : Host.Outcome State Fault Refusal :=
  .next (s.whenRunning fun t => if t.closeFailStands then t.reportCloseFail else t)

/-- The uncommanded count has reached 4 while the bypass is CLOSED (R56). -/
def State.uncommandedStands (s : State) : Bool :=
  decide (s.ctl.bypass = .closed) && decide (Config.uncommandedLimit ≤ s.ctl.uncommanded)

/-- BYPASS_UNCOMMANDED (R56): reported to the fault monitor, and the count returns to 0. -/
def execBypassUncommanded (s : State) : Host.Outcome State Fault Refusal :=
  .next (s.whenRunning fun t => if t.uncommandedStands then t.reportUncommanded else t)

/-- The uncommanded-opening test is enabled once 64 sample events have been taken (R56). -/
def Controller.endHoldOff (c : Controller) : Controller :=
  { c with watch := c.watch || decide (Config.holdOffSamples ≤ c.samples) }

/-- UNCOMMANDED_HOLD_OFF_END (R56). -/
def execUncommandedHoldOffEnd (s : State) : Host.Outcome State Fault Refusal :=
  .next (s.whenRunning fun t => t.modCtl Controller.endHoldOff)

/-! ## The timers of the service port and of the copier -/

/-- The start window runs out (R46, R158): in START the station becomes IDLE_OUT, with START_EXPIRED. -/
def State.expireWindow (s : State) : State :=
  if s.port.window then
    let s1 := s.modPort fun p => { p with window := false }
    if s.ctl.service = .start then (s1.setService .idleOut).raise .startExpired else s1
  else s

/-- START_EXPIRED (R158). -/
def execStartExpired (s : State) : Host.Outcome State Fault Refusal :=
  .next (s.whenRunning State.expireWindow)

/-- RELEASE_GAP_END (R163): NOTIFY again follows the pending and enabled bits. -/
def execReleaseGapEnd (s : State) : Host.Outcome State Fault Refusal :=
  .next (s.whenRunning fun t => t.modPort fun p => { p with gap := false })

/-- BLOCK_COPY_END (R145): the block copy in progress completes. -/
def execBlockCopyEnd (s : State) : Host.Outcome State Fault Refusal :=
  .next (s.whenRunning State.endCopy)

end Sys2Proof.Machine
end

