-- ==== Sys2Proof/Machine/Events.lean ====
section
/-! DEFINITION. The meanings of the reset commands and of the two events of the timebase
(COLD_RESET, RESET_PIN_LOW, RESET_RELEASE, SAMPLE_EVENT, CYCLE_BOUNDARY). -/

namespace Sys2Proof.Machine

/-- COLD_RESET (R156): power-up holds the cold reset, and every block takes its cold-reset values. -/
def execColdReset (s : State) : Host.Outcome State Fault Refusal := .next s.assertCold

/-- RESET_PIN_LOW (R16, R156): the pin going low enters warm reset. -/
def execResetPinLow (s : State) : Host.Outcome State Fault Refusal := .next s.assertWarm

/-- RESET_RELEASE (R157): the straps are sampled and the reset held is released. -/
def execResetRelease (station count : BitVec 3) (s : State) : Host.Outcome State Fault Refusal :=
  .next (s.release station count)

/-- SAMPLE_EVENT (R1): a set of sense codes arrives and every per-sample block takes it. -/
def execSampleEvent (input : SenseInput) (upsets : List TemplateUpset) (order : List SamplePart)
    (s : State) : Host.Outcome State Fault Refusal :=
  .next (s.sampleEvent input upsets order)

/-- CYCLE_BOUNDARY (R4): the boundary publishes and every block does its per-cycle work. -/
def execCycleBoundary (upsets : List TemplateUpset) (paramUpsets : List ParamUpset)
    (order : List BoundaryPart) (s : State) : Host.Outcome State Fault Refusal :=
  .next (s.cycleBoundary upsets paramUpsets order)

end Sys2Proof.Machine
end

