-- ==== Sys2Proof/Machine/LineCommands.lean ====
section
/-! DEFINITION. The meanings of the share line's commands (chapter 8). None is taken while a reset is
held (R130). -/

namespace Sys2Proof.Machine

/-- SHARE_FRAME_RECEIVED (R116, R128): the bits sampled on the line are taken one after another (log 25). -/
def execShareFrameReceived (bits : List Bool) (s : State) : Host.Outcome State Fault Refusal :=
  .next (s.whenRunning fun t => t.receiveBits bits)

/-- LINE_IDLE (R116). -/
def execLineIdle (s : State) : Host.Outcome State Fault Refusal := .next (s.whenRunning State.lineIdle)

/-- FRAME_BEGIN (R119): the most urgent eligible frame is begun. -/
def execFrameBegin (s : State) : Host.Outcome State Fault Refusal := .next (s.whenRunning State.beginFrame)

/-- LOST_ARBITRATION (R123). -/
def execLostArbitration (position : Nat) (s : State) : Host.Outcome State Fault Refusal :=
  .next (s.whenRunning fun t => t.loseArbitration position)

/-- TRANSMIT_BIT_ERROR (R124). -/
def execTransmitBitError (position : Nat) (s : State) : Host.Outcome State Fault Refusal :=
  .next (s.whenRunning fun t => t.bitError position)

/-- FRAME_COMPLETE (R125). -/
def execFrameComplete (s : State) : Host.Outcome State Fault Refusal :=
  .next (s.whenRunning State.completeFrame)

/-- LINE_STUCK (R127): the dominant run reaches 24 bits. -/
def execLineStuck (s : State) : Host.Outcome State Fault Refusal := .next (s.whenRunning State.enterStuck)

/-- STUCK_END (R127): the recessive run reaches 11 bits. -/
def execStuckEnd (s : State) : Host.Outcome State Fault Refusal := .next (s.whenRunning State.endStuck)

end Sys2Proof.Machine
end

