-- ==== Sys2Proof/Machine/PortCommands.lean ====
section
/-! DEFINITION. The meanings of the service port's commands (chapter 12): each is one whole transaction,
taken at the rise of its chip select (R159). None is taken while a reset is held. -/

namespace Sys2Proof.Machine

/-- A read of an item at a declared length its table row allows, or BAD_ARGUMENT with zeros (R159). -/
def State.serveLimitedRead (s : State) (item n : Nat) (f : State → Result × List Byte × State) : State :=
  s.serveRead n n (if readAllowed item n then f else fun t => (.badArgument, List.replicate n 0, t))

/-- CAPTURE_DATA_READ (R145). -/
def execCaptureDataRead (length : Nat) (s : State) : Host.Outcome State Fault Refusal :=
  .next (s.serveLimitedRead 0x23 length fun t => t.captureImage length)

/-- EPISODE_READ (R139). -/
def execEpisodeRead (length : Nat) (s : State) : Host.Outcome State Fault Refusal :=
  .next (s.serveLimitedRead 0x11 length fun t => (t.episodeImage.1, t.episodeImage.2, t))

/-- EPISODE_SELECT_WRITE (R139). -/
def execEpisodeSelectWrite (value : BitVec 16) (s : State) : Host.Outcome State Fault Refusal :=
  .next (s.serveWrite 2 fun t => t.selectEpisode value)

/-- EVENTS_WRITE (R162, R163). -/
def execEventsWrite (value : BitVec 16) (s : State) : Host.Outcome State Fault Refusal :=
  .next (s.serveWrite 2 fun t => t.writeEvents value)

/-- EVENT_ENABLE_WRITE (R162). -/
def execEventEnableWrite (value : BitVec 16) (s : State) : Host.Outcome State Fault Refusal :=
  .next (s.serveWrite 2 fun t => t.writeEnable value)

/-- FIRST_FAULT_CLEAR (R154): one data byte of any value. -/
def execFirstFaultClear (_value : Byte) (s : State) : Host.Outcome State Fault Refusal :=
  .next (s.serveWrite 1 State.clearFirstFault)

/-- PARAM_STAGE_WRITE (R160). -/
def execParamStageWrite (high : Bool) (data : List Byte) (s : State) : Host.Outcome State Fault Refusal :=
  .next (s.serveWrite data.length fun t => t.stage high data)

/-- PARAM_COMMIT (R161). -/
def execParamCommit (crc : Byte) (s : State) : Host.Outcome State Fault Refusal :=
  .next (s.serveWrite 1 fun t => t.commit crc)

/-- ARM (R142). -/
def execArm (one : Bool) (kind : Byte) (count : BitVec 16) (first last : Byte) (s : State) :
    Host.Outcome State Fault Refusal :=
  .next (s.serveWrite 6 fun t => t.armChannel one kind.toNat count.toNat first.toNat last.toNat)

/-- DISARM (R146). -/
def execDisarm (one : Bool) (s : State) : Host.Outcome State Fault Refusal :=
  .next (s.serveWrite 6 fun t => (.ok, t.disarmChannel one))

/-- SOFT (R146). -/
def execSoft (one : Bool) (s : State) : Host.Outcome State Fault Refusal :=
  .next (s.serveWrite 6 fun t => (.ok, t.softChannel one))

/-- CAPTURE_SELECT_WRITE (R145, section 12-2). -/
def execCaptureSelectWrite (block spare : Byte) (offset : BitVec 16) (s : State) :
    Host.Outcome State Fault Refusal :=
  .next (s.serveWrite 4 fun t => t.selectCapture block.toNat spare.toNat offset.toNat)

/-- WITHDRAW (R59, R164). -/
def execWithdraw (s : State) : Host.Outcome State Fault Refusal :=
  .next (s.serveWrite 1 State.requestWithdraw)

/-- RETURN (R60, R164). -/
def execReturnToService (s : State) : Host.Outcome State Fault Refusal :=
  .next (s.serveWrite 1 State.requestReturn)

/-- WARM_RESET (R164). -/
def execWarmReset (s : State) : Host.Outcome State Fault Refusal := .next (s.requestWarmReset 1)

/-- REGISTER_WRITE_OTHER (R159): any transaction as its bytes are clocked. -/
def execRegisterWriteOther (item control : Byte) (data : List Byte) (s : State) :
    Host.Outcome State Fault Refusal :=
  .next (s.transact (item :: control :: data))

/-- FRAME_ERROR (R159): the bytes clocked before the chip select rose. -/
def execFrameError (bytes : List Byte) (s : State) : Host.Outcome State Fault Refusal :=
  .next (s.transact bytes)

end Sys2Proof.Machine
end

