-- ==== Sys2Proof/Machine/Dispatch.lean ====
section
/-! DEFINITION. Which meaning each command has. -/

namespace Sys2Proof.Machine

def exec (i : Instr) (s : State) : Host.Outcome State Fault Refusal :=
  match i with
  | .coldReset => Sys2Proof.Machine.execColdReset s
  | .resetPinLow => Sys2Proof.Machine.execResetPinLow s
  | .resetRelease station count => Sys2Proof.Machine.execResetRelease station count s
  | .sampleEvent input upsets order => Sys2Proof.Machine.execSampleEvent input upsets order s
  | .cycleBoundary upsets paramUpsets order => Sys2Proof.Machine.execCycleBoundary upsets paramUpsets order s
  | .ridden => Sys2Proof.Machine.execRidden s
  | .peerLoss station => Sys2Proof.Machine.execPeerLoss station s
  | .isolation => Sys2Proof.Machine.execIsolation s
  | .onsetBarred => Sys2Proof.Machine.execOnsetBarred s
  | .statusThrottle => Sys2Proof.Machine.execStatusThrottle s
  | .silentTimerExpiry => Sys2Proof.Machine.execSilentTimerExpiry s
  | .coastLimitReached => Sys2Proof.Machine.execCoastLimitReached s
  | .bypassOpenFail => Sys2Proof.Machine.execBypassOpenFail s
  | .bypassCloseFail => Sys2Proof.Machine.execBypassCloseFail s
  | .bypassUncommanded => Sys2Proof.Machine.execBypassUncommanded s
  | .uncommandedHoldOffEnd => Sys2Proof.Machine.execUncommandedHoldOffEnd s
  | .startExpired => Sys2Proof.Machine.execStartExpired s
  | .releaseGapEnd => Sys2Proof.Machine.execReleaseGapEnd s
  | .blockCopyEnd => Sys2Proof.Machine.execBlockCopyEnd s
  | .shareFrameReceived bits => Sys2Proof.Machine.execShareFrameReceived bits s
  | .lineIdle => Sys2Proof.Machine.execLineIdle s
  | .frameBegin => Sys2Proof.Machine.execFrameBegin s
  | .lostArbitration position => Sys2Proof.Machine.execLostArbitration position s
  | .transmitBitError position => Sys2Proof.Machine.execTransmitBitError position s
  | .frameComplete => Sys2Proof.Machine.execFrameComplete s
  | .lineStuck => Sys2Proof.Machine.execLineStuck s
  | .stuckEnd => Sys2Proof.Machine.execStuckEnd s
  | .captureDataRead length => Sys2Proof.Machine.execCaptureDataRead length s
  | .episodeRead length => Sys2Proof.Machine.execEpisodeRead length s
  | .episodeSelectWrite value => Sys2Proof.Machine.execEpisodeSelectWrite value s
  | .eventsWrite value => Sys2Proof.Machine.execEventsWrite value s
  | .eventEnableWrite value => Sys2Proof.Machine.execEventEnableWrite value s
  | .firstFaultClear value => Sys2Proof.Machine.execFirstFaultClear value s
  | .paramStageWrite high data => Sys2Proof.Machine.execParamStageWrite high data s
  | .paramCommit crc => Sys2Proof.Machine.execParamCommit crc s
  | .arm one kind count first last => Sys2Proof.Machine.execArm one kind count first last s
  | .disarm one => Sys2Proof.Machine.execDisarm one s
  | .soft one => Sys2Proof.Machine.execSoft one s
  | .captureSelectWrite block spare offset => Sys2Proof.Machine.execCaptureSelectWrite block spare offset s
  | .withdraw => Sys2Proof.Machine.execWithdraw s
  | .returnToService => Sys2Proof.Machine.execReturnToService s
  | .warmReset => Sys2Proof.Machine.execWarmReset s
  | .registerWriteOther item control data => Sys2Proof.Machine.execRegisterWriteOther item control data s
  | .frameError bytes => Sys2Proof.Machine.execFrameError bytes s

end Sys2Proof.Machine
end

