-- ==== Sys2Proof/Safety.lean ====
section
/-! DEFINITION. What holds of the machine between its events: the invariants that the manual's prose
states of the whole part. -/

namespace Sys2Proof.Machine

/-- The bypass is on its way open or open. -/
def Controller.open_ (c : Controller) : Prop := c.bypass = .opening ∨ c.bypass = .opened

/-- The controller, the record and the command agree (R53, R61, R63, R65, R66, R132): the gates are
enabled in INJECTING, and in LOCKOUT while a close awaits confirmation; the bypass is commanded open, and
a command is other than 0, only while OPENING or OPEN, which INJECTING alone is; a record is open exactly
in INJECTING; the restore count and notice stand only there. -/
structure State.ControllerInv (s : State) : Prop where
  gates : s.ctl.gates = true ↔
    (s.ctl.service = .injecting ∨ (s.ctl.service = .lockout ∧ s.ctl.bypass = .closing))
  command : s.ctl.commandOpen = true ↔ s.ctl.open_
  opening : s.ctl.open_ → s.ctl.service = .injecting
  closing : s.ctl.bypass = .closing → s.ctl.service = .injecting ∨ s.ctl.service = .lockout
  injecting : s.ctl.service = .injecting → s.ctl.bypass ≠ .closed
  record : s.ep.current.isSome = true ↔ s.ctl.service = .injecting
  restore : s.ctl.service ≠ .injecting → s.det.restoreCount = 0 ∧ s.det.restoreNotice = false
  zero : ¬ s.ctl.open_ → s.dp.command = .all 0 ∧ s.dp.duty = .all 0
  invalid : s.valid = false → s.dp.command = .all 0 ∧ s.dp.duty = .all 0

/-- A hand-back in progress names its outcome (R52, R55, R135): while an injecting station's bypass is
CLOSING the controller holds a cause, and the open record its outcome. -/
def State.HandbackInv (s : State) : Prop :=
  s.ctl.service = .injecting → s.ctl.bypass = .closing →
    ∃ c o, s.ctl.cause = some c ∧ s.ep.current = some o ∧ o.closing = some c.outcome

/-- The charger follows the service state and the link (R62, R83). -/
def State.ChargerInv (s : State) : Prop :=
  s.ctl.charge = s.ctl.service.charges ∧
    s.en.chgEn = (s.ctl.charge && decide (s.tb.vdc < s.port.params.vfull))

/-- The share unit (R97, R103, R105, R107): eight entries, the own one and no other SELF; a share within
0 to 256, 256 when SOLO and the fixed share when ISOLATED, which a SOLO station never is; at most eight
members. -/
structure State.ShareInv (s : State) : Prop where
  entries : s.su.peers.length = 8
  self : ∀ k, k < 8 → ((s.su.entry k).state = .self ↔ k = s.own)
  range : s.su.share ≤ 256 ∧ s.dp.share ≤ 256
  solo : s.solo = true → s.su.share = 256 ∧ s.su.isolated = false
  isolated : s.su.isolated = true → s.su.share = 256 / s.nExp
  count : s.su.count ≤ 8

/-- The most dominant bits that can stand together at the end of `n` bits read of a frame: those since its
start bit, or since its last spacer (section 8-3). -/
def followRun (n : Nat) : Nat := if n ≤ 11 then n else (n - 12) % 9

/-- The share line (R116, R122, R125 to R127): the counts in their ranges, no transmission while SILENT or
STUCK, no frame followed while STUCK, a SILENT station's TEC at 128 or more, a muted line in LOCKOUT, and a
dominant run of 0 on an idle line and of no more than a frame's own in a frame that is followed. -/
structure State.LineInv (s : State) : Prop where
  tec : s.line.tec ≤ 255
  seq : s.line.seq < 16
  quiet : ∀ f live, s.line.tracking = .sending f live → s.line.state = .active ∨ s.line.state = .warned
  back : s.line.state = .stuck → s.line.back ≠ .stuck
  silent : s.line.silentRuns = true → 128 ≤ s.line.tec
  mute : s.ctl.service = .lockout → s.line.mute ≠ .free
  stuck : s.line.state = .stuck → s.line.tracking = .lost
  idle : s.line.tracking = .idle → s.line.dominant = 0
  sending : ∀ f live, s.line.tracking = .sending f live → s.line.dominant = 0
  run : ∀ read, s.line.tracking = .receiving read → s.line.dominant ≤ followRun read.length

/-- The episode ring (R131, R132): at most sixteen records, numbered consecutively up to the next number,
and the open record is one of them. -/
structure State.RingInv (s : State) : Prop where
  length : s.ep.records.length ≤ 16
  numbers : ∀ i (h : i < s.ep.records.length),
    (s.ep.records[i]).number = s.ep.next - BitVec.ofNat 16 (s.ep.records.length - i)
  current : s.ep.current.isSome = true → s.ep.records ≠ []

/-- The capture channels (section 10-1, R142, R145): the memory keeps its canonical form, each half of the
live buffer is one block, the selection names a word of the memory, each channel's region is one of
blocks 0 to 39, which an ARMED channel writes from its first, and a copy is that of a CAPTURING channel. -/
structure State.CaptureInv (s : State) : Prop where
  memory : s.cap.memory.wf = true
  halves : s.cap.filling.length = 384 ∧ s.cap.completed.length = 384
  selection : s.cap.block < 40 ∧ s.cap.offset < 384
  region : ∀ one, (s.cap.channel one).first ≤ (s.cap.channel one).last ∧ (s.cap.channel one).last < 40
  write : ∀ one, (s.cap.channel one).state = .armed → (s.cap.channel one).write = (s.cap.channel one).first
  copies : s.cap.copies.Nodup ∧ ∀ one ∈ s.cap.copies, (s.cap.channel one).state = .capturing

/-- Every fold-back factor stays within 64 to 256 (R73). -/
def State.FoldBackInv (s : State) : Prop := ∀ p, 64 ≤ s.dp.g.get p ∧ s.dp.g.get p ≤ 256

/-- The sense codes and the slot index stay in their ranges (R1, R2), a cycle that is lock-held so far
finds lock LOCKED (R4), and no work of a boundary is left between two commands (log 7). -/
structure State.TimebaseInv (s : State) : Prop where
  codes : ∀ p, -32768 ≤ s.tb.x.get p ∧ s.tb.x.get p ≤ 32767 ∧ -32768 ≤ s.tb.i.get p ∧ s.tb.i.get p ≤ 32767
  link : s.tb.vdc ≤ 4095
  slot : s.tb.nextSlot ≤ 64
  work : s.inst.work = none
  held : s.tb.lockHeld = true → s.tb.lock = .locked

/-- The template ring holds at most four cycles, and none while lock is SEARCH (R19, R24); a station in
STANDBY is ready (R48, R49). -/
structure State.TemplateInv (s : State) : Prop where
  length : s.tmpl.ring.length ≤ 4
  lock : s.tb.lock = .search → s.tmpl.ring = []
  held : s.tb.lockHeld = true → s.tb.lock = .locked
  standby : s.ctl.service = .standby → s.ready = true

/-- The metric is the sum of its window of sixteen squared deviations, each at most 32767² (R30), and 0
while the template is not VALID (R31). -/
structure State.MetricInv (s : State) : Prop where
  length : ∀ p, (s.det.window.get p).length = 16
  sum : ∀ p, s.det.q.get p = (s.det.window.get p).sum
  bound : ∀ p, ∀ v ∈ s.det.window.get p, v ≤ 1073676289
  invalid : s.valid = false → ∀ p, s.det.q.get p = 0

/-- What follows from a commit holds only after one (R46, R47, R97): a station in any state but START,
IDLE_OUT and LOCKOUT is committed, and the fingerprint reads 0 until then; the staging area is 64 bytes
(R160). -/
structure State.CommitInv (s : State) : Prop where
  state : s.ctl.service = .syncing ∨ s.ctl.service = .standby ∨ s.ctl.service = .injecting ∨
    s.ctl.service = .withdrawn → s.port.committed = true
  fingerprint : s.port.committed = false → s.port.fingerprint = 0
  start : s.port.committed = true → s.ctl.service ≠ .start ∧ s.ctl.service ≠ .idleOut
  staging : s.port.staging.length = 64

/-! ## Words the statements use -/

/-- No word of the held cycles or of the template values is in error. -/
def Template.sound (t : Template) : Prop := t.values.errors = [] ∧ ∀ w ∈ t.ring, w.errors = []

/-- The squared deviation a sample gives a phase (R30): the clamped grid code minus the template value of
the next slot, held within 32767 either way, squared. -/
def State.squareNext (s : State) (v : SenseInput) (p : Phase) : Nat :=
  square (max (-32767) (min 32767
    (max (-32768) (min 32767 (v.x.get p)) - (s.tmpl.values.codes.get p).getD s.tb.nextSlot 0)))

/-- The window of a phase after a sample (R30). -/
def State.windowNext (s : State) (v : SenseInput) (p : Phase) : List Nat :=
  (s.det.window.get p).tail ++ [s.squareNext v p]

/-- The metric of a phase after a sample (R30). -/
def State.metricNext (s : State) (v : SenseInput) (p : Phase) : Nat := (s.windowNext v p).sum

/-- A phase's current magnitude is at or above the trip level (R77). -/
def State.overcurrentNext (s : State) (v : SenseInput) (p : Phase) : Prop :=
  s.dp.tripLevel ≤ (max (-32768) (min 32767 (v.i.get p))).natAbs

/-- The grid code a sample gives a phase (R2). -/
def gridCode (v : SenseInput) (p : Phase) : Int := max (-32768) (min 32767 (v.x.get p))

/-- The current code a sample gives a phase (R2). -/
def currentCode (v : SenseInput) (p : Phase) : Int := max (-32768) (min 32767 (v.i.get p))

/-- The next sample reports no DC_OVERVOLTAGE (R84): no block is committed, the overvoltage flag is set
already, or the link code stays below Vover. -/
def State.quietLink (s : State) (v : SenseInput) : Prop :=
  s.port.committed = false ∨ s.en.overvoltage = true ∨
    max 0 (min 4095 v.vdc) < (s.port.params.vover : Int)

/-- The test of the feedback that the next sample carries reports no failure of the bypass (R51, R53, R56):
its bound has not run out, and it is no fourth uncommanded opening in a row. -/
def State.quietFeedback (s : State) (v : SenseInput) : Prop :=
  match s.ctl.bypass with
  | .opened => True
  | .opening => v.feedbackHigh = true ∨ 2 ≤ s.ctl.timer
  | .closing => v.feedbackHigh = false ∨ s.ctl.timer ≠ 1
  | .closed => s.ctl.watch = false ∨ v.feedbackHigh = false ∨ s.ctl.uncommanded < 3

/-- The time of the next sample: the span from the reference instant to the next slot 0, spread evenly over
the slots from the reference on (R3). -/
def State.timeNext (s : State) : Stamp :=
  s.tb.refTime + BitVec.ofNat 32 ((s.tb.nextSlot0 - s.tb.refTime).toNat
    * (s.tb.nextSlot - s.tb.refSlot) / (64 - s.tb.refSlot))

/-- The next sample gives a rising crossing at time `x`: an armed recogniser meets a code of 0 or above, and
interpolates between the previous sample and this one (R6). -/
def State.crossesAt (s : State) (v : SenseInput) (x : Stamp) : Prop :=
  s.tb.armed = true ∧ 0 ≤ gridCode v .a ∧
    x = s.tb.prevTime + BitVec.ofInt 32 (((s.timeNext - s.tb.prevTime).toNat : Int) * (-s.tb.prevCode)
      / (gridCode v .a - s.tb.prevCode))

/-- The next sample gives no crossing (R6). -/
def State.noCrossing (s : State) (v : SenseInput) : Prop := s.tb.armed = false ∨ gridCode v .a < 0

/-- A sample event can be taken: no reset is held and no boundary is due (R1, R4). -/
def State.awaitsSample (s : State) : Prop := s.held = .released ∧ s.tb.nextSlot < 64

/-- A boundary can be taken: no reset is held and slot 63 has been taken (R4). -/
def State.awaitsBoundary (s : State) : Prop := s.held = .released ∧ s.tb.nextSlot = 64

/-- An event is pending. -/
def State.isPending (s : State) (e : Event) : Prop := s.port.pending &&& e.bit ≠ 0

/-- The bits read so far of the frame that the controller follows, or none yet on an idle line; nothing for a
controller that follows no frame, transmits, or is STUCK (R116, R127). -/
def Line.heard (l : Line) : Option (List Bool) :=
  match l.tracking with
  | .idle => if l.state = .stuck then none else some []
  | .receiving read => if l.state = .stuck then none else some read
  | .lost => none
  | .sending _ _ => none

/-- The bits finish a frame that is accepted: one that the controller follows already, or meets on an idle
line, with a dominant run so far of no more than a frame's own (R116, R128). -/
def State.hears (s : State) (bits : List Bool) (f : Frame) : Prop :=
  s.line.dominant ≤ 11 ∧ bits ≠ [] ∧ ∃ read, s.line.heard = some read ∧
    (read ++ bits).length = 28 + 9 * f.payload.length ∧ receiveFrame (read ++ bits) = some f

/-- A receive check of R128 is found to fail at the bit of a position, on the bits of a frame read up to
there: a class above 4 at its third bit; a length below 2, below the least of its class or above 8, a state
code other than 1 to 5 and a CRC byte that does not match at their last bits; and a dominant bit where a
spacer, an end bit or an intermission bit stands, at itself. -/
def checkFails (frame : List Bool) (k : Nat) : Prop :=
  let cls := fieldAt frame 1 3
  let n := fieldAt frame 7 4
  let least := match cls with | 0 => 5 | 1 => 5 | 3 => 8 | 4 => 4 | _ => 2
  (k = 3 ∧ 4 < cls) ∨
  (k = 10 ∧ (4 < cls ∨ n < least ∨ 8 < n)) ∨
  (k = 28 ∧ (fieldAt frame 25 4 = 0 ∨ 5 < fieldAt frame 25 4)) ∨
  (k = 19 + 9 * n ∧
    crc8 (headerBytes cls (fieldAt frame 4 3) n ++ (List.range n).map (payloadAt frame))
      ≠ BitVec.ofNat 8 (fieldAt frame (12 + 9 * n) 8)) ∨
  ((k = 11 ∨ (∃ j, j ≤ n ∧ k = 20 + 9 * j) ∨ 21 + 9 * n ≤ k) ∧ frame[k]? = some false)

/-- The memory of the second state reads, at every address, as that of the first. -/
def State.sameMemory (s t : State) : Prop := ∀ a, t.cap.memory.read a = s.cap.memory.read a

/-- What a trigger of kind `k` with trigger cycle `n` does to the capture channels, and that they change no
further (R143, R144): a channel ARMED for the kind becomes CAPTURING. Where the capture work of the boundary
has been taken already (`late`), it asks at once for the copy of the completed cycle, channel 0 before
channel 1, or ends REGION_FULL when its write block lies beyond its region. -/
def State.triggers (s t : State) (k : TriggerKind) (n : Stamp) (late : Bool) : Prop :=
  let starts := fun one => (s.cap.channel one).state = .armed ∧ (s.cap.channel one).kind = k
  let room := fun one => (s.cap.channel one).write ≤ (s.cap.channel one).last
  t.cap = { s.cap with ch0 := t.cap.ch0, ch1 := t.cap.ch1, copies := t.cap.copies } ∧
    t.cap.copies = s.cap.copies ++
      (if late then [false, true].filter fun one => decide (starts one ∧ room one) else []) ∧
    ∀ one, (¬ starts one → t.cap.channel one = s.cap.channel one) ∧
      (starts one → late = false ∨ room one →
        t.cap.channel one = { s.cap.channel one with state := .capturing, cycle := n }) ∧
      (starts one → late = true → ¬ room one →
        t.cap.channel one = { s.cap.channel one with
          state := .idle, status := .regionFull, cycle := n, disarm := false } ∧
        t.isPending (if one then .capture1End else .capture0End))

/-- The port `p` once a transaction that began in state `s` has ended with a result, having returned some
data bytes after the two header bytes (Table 12-2.1, R159). -/
def State.portAfter (s : State) (p : Port) (r : Result) (data : List Byte) : Port :=
  { p with
    result := r
    out := [BitVec.ofNat 8 s.port.result.code,
      BitVec.ofNat 8 (s.port.pending &&& s.port.enable).toNat] ++ data }

end Sys2Proof.Machine
end

