-- ==== Sys2Proof/Certificates/Slice0/Obligations.lean ====
section
/-! DEFINITION. The statements for the provers, each formalising what the manual says a command, or the
whole part, does. -/

open Sys2Proof Sys2Proof.Machine

/-! ## The machine and its resets -/

/-- A step takes the command at the front of the queue out of it and runs it on the state with the queue's
rest; with none waiting the block idles (log 5). No command stops the machine, and none touches the rest of
the queue. -/
def Obligations.StepRunsTheFrontCommand : Prop :=
  (∀ (s : State) (c : Instr) (rest : List Instr), s.pending = c :: rest →
    step s = exec c { s with pending := rest }) ∧
  (∀ s : State, s.pending = [] → step s = .next s) ∧
  ∀ (c : Instr) (s : State), ∃ t, exec c s = .next t ∧ t.pending = s.pending

/-- R130, R156, R157, R158: COLD_RESET gives every block its cold-reset values, with the bypass commanded
closed, the gates disabled, the commands 0 and the driver enable released while it is held; RESET_RELEASE
then samples the straps, which name the own slot and decide SOLO, and leaves the state of the reset tables
with the start window running and RESTARTED pending (the values no table gives are the model's: log 3, log
4). -/
def Obligations.ColdResetThenRelease : Prop :=
  ∀ (s : State) (station count : BitVec 3), ∃ t,
    exec .coldReset s = .next t ∧ t.held = .cold ∧ t.ctl = Controller.reset ∧ t.dp = Datapath.reset ∧
    t.driverEnable = false ∧
    exec (.resetRelease station count) t = .next { State.reset with
      su := ShareUnit.atRelease station.toNat count.toNat
      port := { Port.reset with station := station, countStrap := count }
      draws := s.draws, pending := s.pending }

/-- R16, R130, R140, R147, R155, R156, R159, R164: the RESET pin and the WARM_RESET request enter the same
warm reset, with the driver enable released, the request once its transaction has returned its bytes (R159);
and after the release the cycle counter is one more than the value held, the episode records, the capture
memory, the first-fault record and the ECC corrected count are kept, an open record is closed as
ABORTED_RESET, and all else is as after a cold reset (with the model's values of log 3 and log 4). Of a copy
that was abandoned each word of its block is the new one or the old one (which of the two is free, log 13),
and no other byte changes, for a capture memory in its canonical form, which every step keeps
(StepKeepsTheBuffersAndFactors). -/
def Obligations.WarmResetThenRelease : Prop :=
  ∀ (s : State) (station count : BitVec 3), s.held = .released → ∃ t u,
    let returned := fun (x : State) => { x with port := { x.port with out :=
      [BitVec.ofNat 8 s.port.result.code, BitVec.ofNat 8 (s.port.pending &&& s.port.enable).toNat, 0] } }
    exec .resetPinLow s = .next t ∧ exec .warmReset s = .next (returned t) ∧
    t.held = .warm ∧ t.ctl = Controller.reset ∧ t.dp = Datapath.reset ∧ t.driverEnable = false ∧
    exec (.resetRelease station count) t = .next u ∧
    exec (.resetRelease station count) (returned t) = .next (returned u) ∧
    u = { State.reset with
      tb := { Timebase.reset with counter := s.tb.counter + 1 }
      su := ShareUnit.atRelease station.toNat count.toNat
      ep := {
        records := if s.ep.current.isSome then modLast (fun r => { r with
          outcome := .abortedReset, energy := s.energyUsed }) s.ep.records else s.ep.records
        current := none, next := s.ep.next, overwrites := s.ep.overwrites, selection := 0xFFFF#16 }
      cap := { Capture.reset with memory := u.cap.memory }
      fm := { s.fm with scrub := false }
      port := { Port.reset with station := station, countStrap := count }
      draws := u.draws, pending := s.pending } ∧
    (s.cap.copies = [] → s.sameMemory u) ∧
    (∀ one rest, s.cap.copies = one :: rest → s.cap.completed.length = 384 → s.cap.memory.wf = true →
      (∀ a, a < 768 * (s.cap.channel one).write ∨ 768 * ((s.cap.channel one).write + 1) ≤ a →
        u.cap.memory.read a = s.cap.memory.read a) ∧
      ∀ w, w < 384 →
        u.cap.memory.wordBytes (s.cap.channel one).write w
            = s.cap.memory.wordBytes (s.cap.channel one).write w ∨
        u.cap.memory.wordBytes (s.cap.channel one).write w
            = [highByte (s.cap.completed.getD w 0), lowByte (s.cap.completed.getD w 0)])

/-- R1, R130, R156, R159: while a reset is held no command but COLD_RESET and RESET_RELEASE is taken. (That
the commands which cannot occur then leave the state as it is, is the model's choice: log 6.) -/
def Obligations.NothingIsTakenWhileAResetIsHeld : Prop :=
  ∀ (c : Instr) (s : State), s.held ≠ .released → c ≠ .coldReset →
    (∀ station count, c ≠ .resetRelease station count) → exec c s = .next s

/-! ## The sample event -/

/-- R1, R2, R3, R4, R5, R17, R65, R76, R81, R84, R141, R148, R150, R153: a sample event replaces the codes
held by those measured, each clamped to its channel, with the time, the slot and the cycle in progress; the
squares enter the level accumulators; the collecting area of the template memory takes the three grid codes
at the slot, each word encoded afresh, and the injected flag is set in INJECTING and otherwise kept, but for
slot 0 which clears it first; the filling half of the live buffer takes the three grid codes in the words of
the slot, the command words of the slot alone besides them, and those are 0, like the command and the duty,
wherever R65 does not allow the chain; the credit and the overvoltage flag follow the link code once a block
is committed; the overvoltage flag going from clear to set raises DC_OVERVOLTAGE, and a flag that stays or
falls leaves that event as it was, and with no other report of that sample the first-fault record, when
empty, takes the NOTE with the Vdc code as its detail and no phase, or else counts one report more, and no
service state changes but by an onset or a close confirmation; the published sums, the counter, the share
unit, the capture memory and all of the service port but raised events stay. (The words are in a half of
384, which StepKeepsTheBuffersAndFactors keeps.) -/
def Obligations.SampleEventHoldsTheCodes : Prop :=
  ∀ (s : State) (v : SenseInput) (ups : List TemplateUpset) (order : List SamplePart), s.awaitsSample →
    ∃ t, exec (.sampleEvent v ups order) s = .next t ∧
      (∀ p, t.tb.x.get p = max (-32768) (min 32767 (v.x.get p)) ∧
        t.tb.i.get p = max (-32768) (min 32767 (v.i.get p)) ∧
        t.tb.acc.get p = s.tb.acc.get p + (max (-32768) (min 32767 (v.x.get p))).natAbs ^ 2) ∧
      (t.tb.vdc : Int) = max 0 (min 4095 v.vdc) ∧ t.tb.feedbackOpen = v.feedbackHigh ∧
      t.tb.slot = s.tb.nextSlot ∧ t.tb.cycle = s.tb.counter ∧ t.tb.nextSlot = s.tb.nextSlot + 1 ∧
      t.tb.time = s.timeNext ∧
      (s.cap.filling.length = 384 → t.cap.filling.length = 384 ∧
        t.cap.filling.getD s.tb.nextSlot 0 = gridCode v .a ∧
        t.cap.filling.getD (64 + s.tb.nextSlot) 0 = gridCode v .b ∧
        t.cap.filling.getD (128 + s.tb.nextSlot) 0 = gridCode v .c ∧
        ∀ k, k < 384 → k % 64 ≠ s.tb.nextSlot → t.cap.filling.getD k 0 = s.cap.filling.getD k 0) ∧
      t.cap.completed = s.cap.completed ∧
      (∀ p, t.tmpl.collecting.codes.get p
        = (s.tmpl.collecting.codes.get p).set s.tb.nextSlot (gridCode v p)) ∧
      (∀ e ∈ t.tmpl.collecting.errors, e.slot ≠ s.tb.nextSlot) ∧
      (s.ctl.service = .injecting ∨ t.ctl.service = .injecting → t.tmpl.injected = true) ∧
      (s.ctl.service ≠ .injecting → t.ctl.service = s.ctl.service ∨ t.ep.next = s.ep.next →
        t.tmpl.injected = (decide (s.tb.nextSlot ≠ 0) && s.tmpl.injected)) ∧
      (s.ctl.service ≠ .injecting ∨ ¬ s.ctl.open_ ∨ s.valid = false ∨ s.barred = true →
        t.dp.command = .all 0 ∧ t.dp.duty = .all 0 ∧
        ∀ j, j < 3 → t.cap.filling.getD (192 + 64 * j + s.tb.nextSlot) 0 = 0) ∧
      t.tb.counter = s.tb.counter ∧ t.tb.lx = s.tb.lx ∧
      t.held = s.held ∧ t.su = s.su ∧ t.draws = s.draws ∧ t.pending = s.pending ∧ s.sameMemory t ∧
      t.port = { s.port with pending := t.port.pending } ∧
      s.port.pending &&& t.port.pending = s.port.pending ∧
      (s.port.committed = true →
        t.en.credit = min 65535 ((t.tb.vdc ^ 2 - s.port.params.vmin ^ 2) / 256) ∧
        t.en.overvoltage = decide (s.port.params.vover ≤ t.tb.vdc)) ∧
      (s.port.committed = false → t.en.credit = 0 ∧ t.en.overvoltage = s.en.overvoltage) ∧
      (s.quietLink v →
        t.port.pending &&& Event.dcOvervoltage.bit = s.port.pending &&& Event.dcOvervoltage.bit) ∧
      (¬ s.quietLink v → t.isPending .dcOvervoltage ∧ t.fm.first.kind.isSome = true ∧
        (ups = [] → s.tmpl.sound → (∀ p, ¬ s.overcurrentNext v p) → s.quietFeedback v →
          (s.fm.first.kind = none → t.fm.first.kind = some .dcOvervoltage ∧ t.fm.first.phase = none ∧
            t.fm.first.detail = some t.tb.vdc ∧ t.fm.first.cycle = s.tb.counter ∧
            t.fm.first.slot = s.tb.nextSlot ∧ t.fm.first.later = 0 ∧ t.isPending .fault) ∧
          (s.fm.first.kind ≠ none → t.fm.first = { s.fm.first with
            later := min 255 (s.fm.first.later + 1) }) ∧
          (s.ctl.service ≠ .standby → s.ctl.bypass ≠ .closing → t.ctl.service = s.ctl.service ∧
            (s.fm.first.kind = none → t.fm.first.service = s.ctl.service))))

/-- R65, R67 to R76, R78, R141: at a sample event of an injecting station with the bypass OPENING or OPEN,
the template in force, the station not onset-barred and nothing that trips it, in any order of the blocks,
each phase's command is the target's missing voltage within the cabinet ceiling, or 0 with the gate off,
times the share, within the module ceiling and the headroom, times the fold-back factor as this sample has
updated it; its duty is that command over the headroom; the words of the slot in the filling half of the
live buffer hold the commands; and each clamp flag of the cycle is set when its clamp changes a value of
some phase, with the gate on for the cabinet ceiling, or, for fold-back, when some factor is below 256, and
is cleared by slot 0 alone. Where the chain does not run, the flags stay but for slot 0, and so do the
factors, the plan and the share, unless an episode opens. (That the fold-back flag is set whatever the gate
is log 24's reading.) -/
def Obligations.ChainCommandsTheSample : Prop :=
  (∀ (s : State) (v : SenseInput) (order : List SamplePart),
    s.awaitsSample → s.valid = true → s.tmpl.sound → s.ctl.service = .injecting → s.ctl.open_ →
    s.barred = false → (∀ p, ¬ s.overcurrentNext v p) →
    (s.ctl.bypass = .opening → v.feedbackHigh = true ∨ 2 ≤ s.ctl.timer) →
    ∃ t, exec (.sampleEvent v [] order) s = .next t ∧
      let rounded := fun (y : Int) => (y + 128) / 256
      let held := fun (limit : Nat) (y : Int) => max (-(limit : Int)) (min (limit : Int) y)
      let value := fun (p : Phase) => (s.tmpl.values.codes.get p).getD s.tb.nextSlot 0
      let room := t.tb.vdc * s.port.params.kh / 4096
      let gap := fun (p : Phase) => rounded ((s.dp.plan.get p).f * value p) - gridCode v p
      let missing := fun (p : Phase) => held s.port.params.mc (held 32767 (gap p))
      let own := fun (p : Phase) => rounded ((if (s.dp.plan.get p).gate then missing p else 0) * s.dp.share)
      let bound := fun (p : Phase) => held s.port.params.mm (own p)
      let before := if s.tb.nextSlot = 0 then ClampFlags.clear else s.dp.flags
      (∀ p,
        t.dp.g.get p = (if s.port.params.iLim < (currentCode v p).natAbs then max 64 (s.dp.g.get p - 32)
          else if 8 * (currentCode v p).natAbs ≤ 7 * s.port.params.iLim then min 256 (s.dp.g.get p + 8)
          else s.dp.g.get p) ∧
        t.dp.command.get p = rounded (held room (bound p) * t.dp.g.get p) ∧
        t.dp.duty.get p = (t.dp.command.get p * 1024).tdiv room) ∧
      (t.dp.flags.cabinet = true ↔ before.cabinet = true ∨
        ∃ p, (s.dp.plan.get p).gate = true ∧ missing p ≠ gap p) ∧
      (t.dp.flags.saturation = true ↔ before.saturation = true ∨ ∃ p, bound p ≠ own p) ∧
      (t.dp.flags.headroom = true ↔ before.headroom = true ∨ ∃ p, held room (bound p) ≠ bound p) ∧
      (t.dp.flags.foldBack = true ↔ before.foldBack = true ∨ ∃ p, t.dp.g.get p < 256) ∧
      t.dp.plan = s.dp.plan ∧ t.dp.share = s.dp.share ∧ t.ctl.service = .injecting ∧ t.ctl.open_ ∧
      (s.cap.filling.length = 384 →
        t.cap.filling.getD (192 + s.tb.nextSlot) 0 = t.dp.command.get .a ∧
        t.cap.filling.getD (256 + s.tb.nextSlot) 0 = t.dp.command.get .b ∧
        t.cap.filling.getD (320 + s.tb.nextSlot) 0 = t.dp.command.get .c)) ∧
  ∀ (s : State) (v : SenseInput) (ups : List TemplateUpset) (order : List SamplePart),
    s.awaitsSample → s.ctl.service ≠ .injecting ∨ ¬ s.ctl.open_ ∨ s.valid = false ∨ s.barred = true →
    ∃ t, exec (.sampleEvent v ups order) s = .next t ∧
      t.dp.flags = (if s.tb.nextSlot = 0 then ClampFlags.clear else s.dp.flags) ∧
      (t.ep.next = s.ep.next → t.dp.g = s.dp.g ∧ t.dp.plan = s.dp.plan ∧ t.dp.share = s.dp.share)

/-- R6 to R12, R14: at a sample event the recogniser arms below −512 and disarms on a crossing, and is idle
with the lock logic before a commit. In SEARCH an interval in the good range counts towards C, which makes
lock LOCKED with the period measured and slot 0 realigned. In LOCKED an in-window crossing trims the period
to the good range and realigns slot 0 (of the next cycle, when it belongs to the slot 0 still to come);
another crossing, or a window passed without one, makes lock COAST with LOCK_CHANGE and trigger LOCK_LOSS.
In COAST C in-window crossings in a row make it LOCKED again, and the grid is not moved before. (Where the
next window is centred, that the crossing is judged before the window's closing, and that a crossing belongs
to the slot 0 still to come when the window is centred on it, are the model's readings: log 28; so is that a
time a crossing has set for a slot 0 still to come, the next one or the one after it, stays set when lock
becomes COAST: log 38.) -/
def Obligations.LockFollowsTheCrossings : Prop :=
  ∀ (s : State) (v : SenseInput) (ups : List TemplateUpset) (order : List SamplePart), s.awaitsSample →
    let p := s.port.params
    let nominal := if p.frequency = 0 then 20000 else 16667
    let low := nominal - nominal * p.tol / 1000
    let high := nominal + nominal * p.tol / 1000
    let width : Int := (s.tb.period * p.tol / 1000 : Nat)
    let passed := width < (s.timeNext - s.tb.windowCentre).toInt
    let inside := fun (x : Stamp) => -width ≤ (x - s.tb.windowCentre).toInt ∧
      (x - s.tb.windowCentre).toInt ≤ width
    ∃ t, exec (.sampleEvent v ups order) s = .next t ∧
      let same := t.tb.period = s.tb.period ∧ t.tb.nextSlot0 = s.tb.nextSlot0 ∧
        t.tb.afterNext = s.tb.afterNext ∧ t.tb.refTime = s.tb.refTime ∧ t.tb.refSlot = s.tb.refSlot
      let changed := t.tb.lockHeld = false ∧ t.isPending .lockChange
      let lost := t.tb.lock = .coast ∧ changed ∧ same ∧ t.tb.confirm = 0 ∧ t.tb.coast = 0 ∧
        t.tb.lastCrossing = s.tb.lastCrossing ∧
        t.tb.windowCentre
          = (if passed then s.tb.windowCentre + BitVec.ofNat 32 s.tb.period else s.tb.windowCentre) ∧
        ∀ one, (s.cap.channel one).state = .armed → (s.cap.channel one).kind = .lockLoss →
          (t.cap.channel one).state = .capturing ∧ (t.cap.channel one).cycle = s.tb.counter
      let realigned := fun (x : Stamp) (period : Nat) =>
        t.tb.period = period ∧ t.tb.windowCentre = x + BitVec.ofNat 32 period ∧
        t.tb.nextSlot0 = x + BitVec.ofNat 32 period ∧ t.tb.refTime = s.timeNext ∧
        t.tb.refSlot = s.tb.nextSlot ∧ t.tb.afterNext = s.tb.afterNext
      let trimmed := fun (x : Stamp) => ∀ y, s.tb.lastCrossing = some y →
        let period := max low (min high (x - y).toNat)
        if s.tb.windowCentre = s.tb.nextSlot0 then
          t.tb.period = period ∧ t.tb.windowCentre = x + BitVec.ofNat 32 period ∧
          t.tb.afterNext = some (x + BitVec.ofNat 32 period) ∧ t.tb.nextSlot0 = s.tb.nextSlot0 ∧
          t.tb.refTime = s.tb.refTime ∧ t.tb.refSlot = s.tb.refSlot
        else realigned x period
      t.tb.prevCode = gridCode v .a ∧ t.tb.prevTime = s.timeNext ∧
      (s.port.committed = false → same ∧ t.tb.armed = false ∧ t.tb.lock = s.tb.lock ∧
        t.tb.confirm = s.tb.confirm ∧ t.tb.lastCrossing = s.tb.lastCrossing ∧
        t.port.pending &&& Event.lockChange.bit = s.port.pending &&& Event.lockChange.bit) ∧
      (s.port.committed = true →
        (t.tb.armed = true ↔ gridCode v .a < -512 ∨ (s.tb.armed = true ∧ gridCode v .a < 0)) ∧
        (s.noCrossing v →
          (s.tb.lock = .search → t.tb.lock = .search ∧ same ∧ t.tb.confirm = s.tb.confirm ∧
            t.tb.lastCrossing = s.tb.lastCrossing) ∧
          (s.tb.lock = .locked → passed → lost) ∧
          (s.tb.lock = .locked → ¬ passed → t.tb.lock = .locked ∧ same ∧
            t.tb.lockHeld = (decide (s.tb.nextSlot = 0) || s.tb.lockHeld) ∧
            t.tb.windowCentre = s.tb.windowCentre ∧ t.tb.lastCrossing = s.tb.lastCrossing) ∧
          (s.tb.lock = .coast → t.tb.lock = .coast ∧ same ∧ t.tb.coast = s.tb.coast ∧
            t.tb.confirm = (if passed then 0 else s.tb.confirm) ∧
            t.tb.windowCentre
              = (if passed then s.tb.windowCentre + BitVec.ofNat 32 s.tb.period else s.tb.windowCentre) ∧
            t.tb.lastCrossing = s.tb.lastCrossing)) ∧
        ∀ x, s.crossesAt v x →
          (s.tb.lock = .search → t.tb.lastCrossing = some x ∧
            (s.tb.lastCrossing = none →
              t.tb.lock = .search ∧ same ∧ t.tb.confirm = s.tb.confirm) ∧
            ∀ y, s.tb.lastCrossing = some y →
              (low ≤ (x - y).toNat ∧ (x - y).toNat ≤ high → p.c ≤ s.tb.confirm + 1 →
                t.tb.lock = .locked ∧ changed ∧ t.tb.confirm = 0 ∧ realigned x (x - y).toNat) ∧
              (low ≤ (x - y).toNat ∧ (x - y).toNat ≤ high → s.tb.confirm + 1 < p.c →
                t.tb.lock = .search ∧ same ∧ t.tb.confirm = s.tb.confirm + 1) ∧
              (¬ (low ≤ (x - y).toNat ∧ (x - y).toNat ≤ high) →
                t.tb.lock = .search ∧ same ∧ t.tb.confirm = 0)) ∧
          (s.tb.lock = .locked →
            (inside x → t.tb.lock = .locked ∧ trimmed x ∧ t.tb.lastCrossing = some x ∧
              t.tb.lockHeld = (decide (s.tb.nextSlot = 0) || s.tb.lockHeld)) ∧
            (¬ inside x → lost)) ∧
          (s.tb.lock = .coast →
            (inside x → p.c ≤ s.tb.confirm + 1 →
              t.tb.lock = .locked ∧ changed ∧ t.tb.confirm = 0 ∧ trimmed x ∧
              t.tb.lastCrossing = some x) ∧
            (inside x → s.tb.confirm + 1 < p.c →
              t.tb.lock = .coast ∧ same ∧ t.tb.confirm = s.tb.confirm + 1 ∧
              t.tb.coast = s.tb.coast ∧ t.tb.lastCrossing = some x ∧
              t.tb.windowCentre = s.tb.windowCentre + BitVec.ofNat 32 s.tb.period) ∧
            (¬ inside x →
              t.tb.lock = .coast ∧ same ∧ t.tb.confirm = 0 ∧ t.tb.coast = s.tb.coast ∧
              t.tb.lastCrossing = s.tb.lastCrossing)))

/-- R17, R30, R31, R33, R34: at a sample event at which the template is in force, in every service state and
in any order of the blocks, each phase's squared deviation enters its window as the newest value and the
oldest leaves, Q is the window's sum, and the sag flags and the disturbed flag of the cycle take it; the
quiet flag, set at slot 0, stays set only while every Q is below Q_off. At a sample event without the
template the window, Q and the flags stay but for slot 0, and the quiet flag is cleared. (A Q at Q_on or
more may clear the quiet flag through the onset it opens; Q_off is at most Q_on in every committed block.)
-/
def Obligations.MetricTakesTheSample : Prop :=
  (∀ (s : State) (v : SenseInput) (order : List SamplePart),
    s.awaitsSample → s.valid = true → s.tmpl.sound →
    ∃ t, exec (.sampleEvent v [] order) s = .next t ∧
      (∀ p, t.det.window.get p = s.windowNext v p ∧ t.det.q.get p = s.metricNext v p ∧
        t.det.sag.get p = ((decide (s.tb.nextSlot ≠ 0) && s.det.sag.get p)
          || decide (s.det.qOn ≤ s.metricNext v p))) ∧
      (t.tmpl.disturbed = true ↔ ((s.tb.nextSlot ≠ 0 ∧ s.tmpl.disturbed = true) ∨
        ∃ p, s.det.qOff ≤ s.metricNext v p)) ∧
      (t.det.quiet = true →
        (s.tb.nextSlot = 0 ∨ s.det.quiet = true) ∧ ∀ p, s.metricNext v p < s.det.qOff) ∧
      (s.det.qOff ≤ s.det.qOn → s.tb.nextSlot = 0 ∨ s.det.quiet = true →
        (∀ p, s.metricNext v p < s.det.qOff) → t.det.quiet = true) ∧
      t.tmpl.ring = s.tmpl.ring ∧ t.tmpl.values = s.tmpl.values ∧ t.tmpl.lt = s.tmpl.lt) ∧
  ∀ (s : State) (v : SenseInput) (ups : List TemplateUpset) (order : List SamplePart),
    s.awaitsSample → s.valid = false →
    ∃ t, exec (.sampleEvent v ups order) s = .next t ∧ t.det.quiet = false ∧
      t.det.window = s.det.window ∧ t.det.q = s.det.q ∧
      (∀ p, t.det.sag.get p = (decide (s.tb.nextSlot ≠ 0) && s.det.sag.get p)) ∧
      t.tmpl.disturbed = (decide (s.tb.nextSlot ≠ 0) && s.tmpl.disturbed)

/-- R35, R37, R38, R50, R131, R132, R133, R138, R143: in STANDBY, with the template VALID, lock not SEARCH,
the station not onset-barred and the disarm flag clear, a sample event at which some phase's Q reaches Q_on
(and at which nothing trips the station) opens an episode with the band not DEPLETED, in any order of the
blocks (log 8), whose record is the newest of the ring: sixteen records first lose their oldest, which
counts one overwrite and raises RING_OVERWRITE, and the others stay. In band DEPLETED the onset is unserved:
a record is opened and closed at once as UNSERVED and the disarm flag set, with no change of service state,
no ONSET frame and no ONSET trigger. -/
def Obligations.OwnOnsetOpensAnEpisode : Prop :=
  ∀ (s : State) (v : SenseInput) (order : List SamplePart),
    s.awaitsSample → s.valid = true → s.tmpl.sound → s.ctl.service = .standby → s.ctl.bypass = .closed →
    s.tb.lock ≠ .search → s.barred = false → s.det.disarm = false →
    (∃ p, s.det.qOn ≤ s.metricNext v p) → (∀ p, ¬ s.overcurrentNext v p) →
    (s.ctl.watch = false ∨ v.feedbackHigh = false ∨ s.ctl.uncommanded < 3) →
    ∃ t r, exec (.sampleEvent v [] order) s = .next t ∧
      t.ep.records.getLast? = some r ∧ t.ep.next = s.ep.next + 1 ∧ t.isPending .episodeOpened ∧
      r.number = s.ep.next ∧ r.stamp = s.tb.counter ∧ r.slot = s.tb.nextSlot ∧
      r.peer = false ∧ r.phases = t.det.sag ∧ r.minMembers = s.su.count ∧ r.peakShare = s.su.share ∧
      r.depth = ((if s.ep.records.length < 16 then s.ep.records else s.ep.records.tail).filter fun q =>
        decide ((s.tb.counter - q.stamp).toNat ≤ s.port.params.wr)).length ∧
      (s.ep.records.length < 16 →
        t.ep.records = s.ep.records ++ [r] ∧ t.ep.overwrites = s.ep.overwrites ∧
        t.port.pending &&& Event.ringOverwrite.bit = s.port.pending &&& Event.ringOverwrite.bit) ∧
      (16 ≤ s.ep.records.length →
        t.ep.records = s.ep.records.tail ++ [r] ∧ t.ep.overwrites = min 65535 (s.ep.overwrites + 1) ∧
        t.isPending .ringOverwrite) ∧
      (s.en.band = .depleted →
        t.ctl.service = .standby ∧ t.ctl.bypass = .closed ∧ t.ctl.commandOpen = s.ctl.commandOpen ∧
        t.ctl.gates = s.ctl.gates ∧ t.det.disarm = true ∧ r.outcome = .unserved ∧ r.energy = 0 ∧
        t.ep.current = none ∧ t.isPending .episodeClosed ∧ t.dp.command = .all 0 ∧
        t.line.queue.onset.isSome = s.line.queue.onset.isSome ∧
        ∀ one, (s.cap.channel one).state = .armed → (s.cap.channel one).kind = .onset →
          t.cap.channel one = s.cap.channel one) ∧
      (s.en.band ≠ .depleted →
        t.ctl.service = .injecting ∧ t.ctl.bypass = .opening ∧ t.ctl.commandOpen = true ∧
        t.ctl.gates = true ∧ t.ctl.timer = 48 ∧ t.ctl.uncommanded = 0 ∧ t.ctl.cause = none ∧
        t.ctl.reonset = false ∧
        t.det.restoreCount = 0 ∧ t.det.restoreNotice = false ∧ t.det.quiet = false ∧
        t.tmpl.injected = true ∧ t.line.queue.onset.isSome = true ∧
        t.dp.command = .all 0 ∧ t.dp.g = .all 256 ∧ t.dp.plan = .all ⟨true, 256⟩ ∧
        t.en.plan = .all ⟨true, 256⟩ ∧ t.en.elapsed = 0 ∧ t.en.depth = r.depth ∧
        r.outcome = .opened ∧ t.ep.current.isSome = true ∧
        ∀ one, (s.cap.channel one).state = .armed → (s.cap.channel one).kind = .onset →
          (t.cap.channel one).state = .capturing ∧ (t.cap.channel one).cycle = s.tb.counter)

/-- R57, R66, R77, R137, R143, R148, R153: a phase's current reaching the trip level with the overcurrent
flag clear takes a station in START, SYNCING, STANDBY, INJECTING or WITHDRAWN to LOCKOUT at that sample
event, in any order of the blocks: the command is cut to 0, no record stays open and the charger is off. An
empty first-fault record is filled, with event FAULT, and each channel armed for FAULT becomes CAPTURING
from this cycle; with no other report of the sample it is filled by the overcurrent: its cycle and slot, the
first phase in order at the trip level, that current's magnitude as the detail, and the service state, which
in STANDBY an onset of the same sample, and in CLOSING a close confirmation, may have changed before; a
filled one stays and counts one report more. -/
def Obligations.OvercurrentTripsTheStation : Prop :=
  ∀ (s : State) (v : SenseInput) (ups : List TemplateUpset) (order : List SamplePart),
    s.awaitsSample → s.ControllerInv → s.ctl.service ≠ .lockout → s.ctl.service ≠ .idleOut →
    s.dp.overcurrent = false → (∃ p, s.overcurrentNext v p) →
    ∃ t, exec (.sampleEvent v ups order) s = .next t ∧
      t.ctl.service = .lockout ∧ t.dp.overcurrent = true ∧ t.dp.command = .all 0 ∧
      t.ep.current = none ∧ t.ctl.charge = false ∧ t.en.chgEn = false ∧ t.ctl.cause = none ∧
      t.ctl.reonset = false ∧ t.det.restoreCount = 0 ∧ t.fm.first.kind.isSome = true ∧
      (s.fm.first.kind = none → t.isPending .fault ∧
        ∀ one, (s.cap.channel one).state = .armed → (s.cap.channel one).kind = .fault →
          (t.cap.channel one).state = .capturing ∧ (t.cap.channel one).cycle = s.tb.counter) ∧
      (ups = [] → s.tmpl.sound → s.quietLink v → s.quietFeedback v →
        (s.fm.first.kind = none →
          t.fm.first.kind = some .overcurrentTrip ∧ t.fm.first.cycle = s.tb.counter ∧
          t.fm.first.slot = s.tb.nextSlot ∧ t.fm.first.later = 0 ∧
          (s.ctl.service ≠ .standby → s.ctl.bypass ≠ .closing → t.fm.first.service = s.ctl.service) ∧
          ∀ p, s.overcurrentNext v p →
            p = .a ∨ (p = .b ∧ ¬ s.overcurrentNext v .a) ∨
              (p = .c ∧ ¬ s.overcurrentNext v .a ∧ ¬ s.overcurrentNext v .b) →
            t.fm.first.phase = some p ∧ t.fm.first.detail = some (currentCode v p).natAbs) ∧
        (s.fm.first.kind ≠ none → t.fm.first = { s.fm.first with
          later := min 255 (s.fm.first.later + 1) }))

/-- R39, R51, R53, R54, R56, R57, R58, R61: a sample event tests the feedback by the bypass state. OPENING:
OPEN makes the bypass OPEN; CLOSED counts the timer down, and its reaching 0 trips the station to LOCKOUT
with the bypass CLOSING. CLOSING, in INJECTING or LOCKOUT: OPEN counts the timer down, and its reaching 0
reports BYPASS_CLOSE_FAIL, once, which takes an injecting station to LOCKOUT with the bypass still CLOSING;
while it goes on, a sample of an injecting station with the template in force and some Q at Q_on sets the
re-onset pending flag, which otherwise stays; CLOSED in LOCKOUT confirms the closure and disables the gates,
with no record closed. CLOSED, after the first 64 sample events: CLOSED clears the uncommanded count and
OPEN adds 1, and the fourth in a row reports BYPASS_UNCOMMANDED, which takes the station to LOCKOUT with the
gates enabled and the bypass CLOSING. -/
def Obligations.OpeningIsBounded : Prop :=
  (∀ (s : State) (v : SenseInput) (order : List SamplePart),
    s.awaitsSample → s.tmpl.sound → s.ctl.service = .injecting → s.ctl.bypass = .opening →
    (∀ p, ¬ s.overcurrentNext v p) →
    ∃ t, exec (.sampleEvent v [] order) s = .next t ∧
      (v.feedbackHigh = true → t.ctl.bypass = .opened ∧ t.ctl.service = .injecting ∧
        t.ctl.gates = s.ctl.gates) ∧
      (v.feedbackHigh = false → 2 ≤ s.ctl.timer → t.ctl.bypass = .opening ∧
        t.ctl.service = .injecting ∧ t.ctl.timer = s.ctl.timer - 1) ∧
      (v.feedbackHigh = false → s.ctl.timer ≤ 1 → t.ctl.service = .lockout ∧ t.ctl.bypass = .closing ∧
        t.ctl.commandOpen = false ∧ t.ctl.timer = 64 ∧ t.ctl.gates = s.ctl.gates ∧
        t.dp.command = .all 0)) ∧
  (∀ (s : State) (v : SenseInput) (order : List SamplePart),
    s.awaitsSample → s.tmpl.sound → s.ctl.service = .injecting ∨ s.ctl.service = .lockout →
    s.ctl.bypass = .closing → (∀ p, ¬ s.overcurrentNext v p) →
    ∃ t, exec (.sampleEvent v [] order) s = .next t ∧
      (v.feedbackHigh = true → t.ctl.bypass = .closing ∧ t.ctl.gates = s.ctl.gates ∧
        t.ctl.commandOpen = s.ctl.commandOpen ∧ t.dp.command = .all 0 ∧
        t.ctl.timer = s.ctl.timer - 1 ∧
        (s.ctl.timer ≠ 1 → (t.ctl.reonset = true ↔ s.ctl.reonset = true ∨
          (s.ctl.service = .injecting ∧ s.valid = true ∧ ∃ p, s.det.qOn ≤ s.metricNext v p))) ∧
        (s.ctl.timer ≠ 1 → t.ctl.service = s.ctl.service ∧ t.ctl.closeFailed = s.ctl.closeFailed ∧
          t.ep = s.ep ∧ (s.quietLink v → t.fm.first = s.fm.first)) ∧
        (s.ctl.timer = 1 → t.ctl.service = .lockout ∧ t.ctl.closeFailed = true ∧
          (s.ctl.service = .injecting → t.ep.current = none ∧ t.ctl.charge = false ∧
            t.ctl.cause = none ∧ t.ctl.reonset = false) ∧
          (s.quietLink v → s.fm.first.kind = none → t.fm.first.kind = some .bypassCloseFail) ∧
          (s.quietLink v → s.fm.first.kind ≠ none →
            t.fm.first.later = min 255 (s.fm.first.later + 1)))) ∧
      (v.feedbackHigh = false → s.ctl.service = .lockout → t.ctl.bypass = .closed ∧
        t.ctl.gates = false ∧ t.ctl.service = .lockout ∧ t.ep = s.ep)) ∧
  ∀ (s : State) (v : SenseInput) (order : List SamplePart),
    s.awaitsSample → s.tmpl.sound → s.ctl.service ≠ .injecting → s.ctl.bypass = .closed →
    (∀ p, ¬ s.overcurrentNext v p) →
    (s.ctl.service ≠ .standby ∨ s.valid = false ∨ ∀ p, s.metricNext v p < s.det.qOn) →
    ∃ t, exec (.sampleEvent v [] order) s = .next t ∧
      t.ctl.watch = (s.ctl.watch || decide (64 ≤ s.ctl.samples + 1)) ∧
      (s.ctl.watch = false → t.ctl.uncommanded = s.ctl.uncommanded) ∧
      (s.ctl.watch = true → v.feedbackHigh = false → t.ctl.uncommanded = 0) ∧
      (s.ctl.watch = true → v.feedbackHigh = true → s.ctl.uncommanded < 3 →
        t.ctl.uncommanded = s.ctl.uncommanded + 1) ∧
      (s.ctl.watch = false ∨ v.feedbackHigh = false ∨ s.ctl.uncommanded < 3 →
        t.ctl.bypass = .closed ∧ t.ctl.service = s.ctl.service ∧ t.ctl.gates = s.ctl.gates ∧
        t.ctl.commandOpen = s.ctl.commandOpen) ∧
      (s.ctl.watch = true → v.feedbackHigh = true → 3 ≤ s.ctl.uncommanded →
        t.ctl.uncommanded = 0 ∧ t.dp.command = .all 0 ∧
        (s.quietLink v → s.fm.first.kind = none → t.fm.first.kind = some .bypassUncommanded) ∧
        (s.ctl.service = .idleOut → t.ctl.service = .idleOut ∧ t.ctl.bypass = .closed) ∧
        (s.ctl.service ≠ .idleOut → t.ctl.service = .lockout ∧ t.ctl.bypass = .closing ∧
          t.ctl.gates = true ∧ t.ctl.timer = 64 ∧ t.ctl.commandOpen = false ∧
          (s.ctl.service ≠ .lockout → t.ctl.charge = false ∧ t.en.chgEn = false)))

/-- R37, R38, R54, R55, R133, R136: a feedback of CLOSED while an injecting station's bypass is CLOSING ends
the episode: the record is closed with the closing outcome taken at hand-back, with the energy used from the
credit of that instant (the sample's or the one before it), and the station goes to STANDBY, or to SYNCING
when the template is not VALID, if no phase's Q then stands at Q_on. With a re-onset pending, the template
VALID and some Q at Q_on it opens a new episode at once, or an unserved record in band DEPLETED, or none
when the station is onset-barred. -/
def Obligations.CloseConfirmationEndsTheEpisode : Prop :=
  (∀ (s : State) (v : SenseInput) (order : List SamplePart) (o : OpenInfo) (out : EpisodeOutcome),
    s.awaitsSample → s.tmpl.sound → s.ctl.service = .injecting → s.ctl.bypass = .closing →
    v.feedbackHigh = false → (∀ p, ¬ s.overcurrentNext v p) →
    (s.valid = true → ∀ p, s.metricNext v p < s.det.qOn) →
    s.ep.current = some o → o.closing = some out →
    ∃ t u, exec (.sampleEvent v [] order) s = .next t ∧
      t.ctl.service = (if s.valid then .standby else .syncing) ∧ t.ctl.bypass = .closed ∧
      t.ctl.gates = false ∧ t.ctl.cause = none ∧ t.ctl.reonset = false ∧
      t.det.restoreCount = 0 ∧ t.det.restoreNotice = false ∧ t.tmpl.ring = s.tmpl.ring ∧
      t.ep.current = none ∧ t.isPending .episodeClosed ∧ t.ep.next = s.ep.next ∧
      (u = s.en.credit ∨ u = t.en.credit) ∧
      t.ep.records = modLast (fun r => { r with outcome := out, energy := o.onsetCredit - u })
        s.ep.records) ∧
  ∀ (s : State) (v : SenseInput) (order : List SamplePart) (o : OpenInfo) (out : EpisodeOutcome),
    s.awaitsSample → s.tmpl.sound → s.ctl.service = .injecting → s.ctl.bypass = .closing →
    v.feedbackHigh = false → (∀ p, ¬ s.overcurrentNext v p) → s.valid = true → s.ctl.reonset = true →
    (∃ p, s.det.qOn ≤ s.metricNext v p) → s.ep.current = some o → o.closing = some out →
    ∃ t u, exec (.sampleEvent v [] order) s = .next t ∧ (u = s.en.credit ∨ u = t.en.credit) ∧
      let closed := modLast (fun r => { r with outcome := out, energy := o.onsetCredit - u }) s.ep.records
      t.isPending .episodeClosed ∧ t.ctl.reonset = false ∧ t.ctl.cause = none ∧
      t.det.restoreCount = 0 ∧ t.det.restoreNotice = false ∧
      (s.barred = true → t.ctl.service = .standby ∧ t.ctl.bypass = .closed ∧ t.ctl.gates = false ∧
        t.ep.current = none ∧ t.ep.records = closed ∧ t.ep.next = s.ep.next) ∧
      (s.barred = false → ∃ r,
        t.ep.records = (if closed.length < 16 then closed else closed.tail) ++ [r] ∧
        t.ep.next = s.ep.next + 1 ∧ r.number = s.ep.next ∧ r.stamp = s.tb.counter ∧
        r.slot = s.tb.nextSlot ∧ r.peer = false ∧ r.phases = t.det.sag ∧ t.isPending .episodeOpened ∧
        (s.en.band = .depleted → t.ctl.service = .standby ∧ t.ctl.bypass = .closed ∧
          t.ctl.gates = false ∧ t.ep.current = none ∧ r.outcome = .unserved ∧ t.det.disarm = true) ∧
        (s.en.band ≠ .depleted → t.ctl.service = .injecting ∧ t.ctl.bypass = .opening ∧
          t.ctl.commandOpen = true ∧ t.ctl.gates = true ∧ t.ctl.timer = 48 ∧
          t.ep.current.isSome = true ∧ r.outcome = .opened ∧ t.line.queue.onset.isSome = true ∧
          t.tmpl.injected = true ∧ t.dp.command = .all 0 ∧ t.dp.g = .all 256 ∧
          t.dp.plan = .all ⟨true, 256⟩))

/-! ## The cycle boundary -/

/-- R3, R4, R5, R7, R10, R12, R13, R33, R79, R141, R144, R145: a boundary publishes the level sums, the sag
flags and the clamp flags of the completed cycle, restarts the accumulators, gives the counter the number of
the new cycle, makes the filling half of the live buffer the completed one, and schedules the new cycle, in
any order of the blocks: the next slot 0 is a period after the one now begun, where the period is the
nominal one in SEARCH (20,000 before a commit) and in SEARCH after COAST, and the one held in LOCKED and in
COAST. A channel CAPTURING since the completed cycle or an earlier one asks for a copy of it when its write
block lies in its region, channel 0 before channel 1, and otherwise ends REGION_FULL with its count kept and
its end event (R144, R145; the outcome of a copy still outstanding is log 14's). No record is opened, and
none is closed but by a trip, and no byte of the capture memory changes unless a copy was still outstanding
(log 14 ends it here; the order is an operand: log 8). (That an earlier trigger cycle is one less than 2^31
cycles back, counted modulo 2^32, and that the new cycle's slot 0, and the one after it, fall where a
crossing has set them, in COAST too, are the model's readings: log 28, log 38.) -/
def Obligations.BoundaryPublishesTheCycle : Prop :=
  ∀ (s : State) (ups : List TemplateUpset) (pups : List ParamUpset) (order : List BoundaryPart),
    s.awaitsBoundary →
    let nominal := if s.port.committed = true ∧ s.port.params.frequency ≠ 0 then 16667 else 20000
    ∃ t, exec (.cycleBoundary ups pups order) s = .next t ∧
      t.tb.lx = s.tb.acc ∧ t.tb.acc = .all 0 ∧ t.tb.counter = s.tb.counter + 1 ∧ t.tb.nextSlot = 0 ∧
      t.tb.x = s.tb.x ∧ t.tb.i = s.tb.i ∧ t.tb.vdc = s.tb.vdc ∧ t.tb.slot = s.tb.slot ∧
      t.tb.slot0 = s.tb.nextSlot0 ∧
      (s.tb.lock = .search → t.tb.lock = .search ∧ t.tb.period = nominal) ∧
      (s.tb.lock = .locked → t.tb.lock = .locked ∧ t.tb.period = s.tb.period) ∧
      (s.tb.lock = .coast → s.tb.coast + 1 < s.port.params.coastLimit →
        t.tb.lock = .coast ∧ t.tb.period = s.tb.period) ∧
      (s.tb.lock = .coast → s.port.params.coastLimit ≤ s.tb.coast + 1 →
        t.tb.lock = .search ∧ t.tb.period = nominal) ∧
      t.tb.nextSlot0 = s.tb.afterNext.getD (s.tb.nextSlot0 + BitVec.ofNat 32 t.tb.period) ∧
      t.det.published = s.det.sag ∧ t.dp.published = s.dp.flags ∧ t.dp.flags = .clear ∧
      t.cap.completed = s.cap.filling ∧ t.cap.filling = s.cap.completed ∧
      t.held = s.held ∧ t.draws = s.draws ∧ t.pending = s.pending ∧
      t.ep.next = s.ep.next ∧ t.ep.overwrites = s.ep.overwrites ∧
      t.ep.records.length = s.ep.records.length ∧ t.en.credit = s.en.credit ∧
      (s.ctl.service = .lockout ∨ t.ctl.service ≠ .lockout ∨ s.ep.current = none →
        t.ep.current.isSome = s.ep.current.isSome ∧
        t.ep.records.map (fun r => r.outcome) = s.ep.records.map (fun r => r.outcome)) ∧
      (s.cap.copies = [] → s.sameMemory t) ∧
      (s.cap.copies = [] → ∀ one, (s.cap.channel one).state = .capturing →
        (s.cap.channel one).disarm = false →
        ((s.tb.counter - (s.cap.channel one).cycle).toNat < 2 ^ 31 →
          ((s.cap.channel one).write ≤ (s.cap.channel one).last →
            one ∈ t.cap.copies ∧ t.cap.channel one = s.cap.channel one) ∧
          ((s.cap.channel one).last < (s.cap.channel one).write → one ∉ t.cap.copies ∧
            t.cap.channel one
              = { s.cap.channel one with state := .idle, status := .regionFull, disarm := false } ∧
            t.isPending (if one then .capture1End else .capture0End))) ∧
        (2 ^ 31 ≤ (s.tb.counter - (s.cap.channel one).cycle).toNat →
          one ∉ t.cap.copies ∧ t.cap.channel one = s.cap.channel one)) ∧
      (s.cap.copies = [] →
        (∀ one, (s.cap.channel one).state = .capturing ∧ (s.cap.channel one).disarm = false ∧
          (s.tb.counter - (s.cap.channel one).cycle).toNat < 2 ^ 31 ∧
          (s.cap.channel one).write ≤ (s.cap.channel one).last) → t.cap.copies = [false, true]) ∧
      t.port = { s.port with pending := t.port.pending, storeErrors := t.port.storeErrors } ∧
      s.port.pending &&& t.port.pending = s.port.pending

/-- R25, R38, R41, R42, R43, R52, R53, R88, R110, R135: a boundary whose completed cycle was quiet clears
the onset disarm flag in every service state, and one whose cycle was not leaves it, where the template
cannot become VALID. At a boundary in INJECTING the restore count takes the quiet flag of the completed
cycle, and RIDDEN is due when it reaches H, or is 1 or more with the notice flag set. A bypass OPENING or
OPEN is then on its way back, with a cause taken; a bypass CLOSING is left as it was. With RIDDEN, ENERGY
(band DEPLETED or Vdc at Vmin or below), LINE (onset-barred) and LOCK (the coast limit) as the causes a
boundary can raise: when none is due, the controller, the commands, the ring and the record's hand-back
fields stay; when one alone is due, it is the cause taken, with its closing outcome in the open record,
which stays OPEN and takes the elapsed cycle and its presence bit; ENERGY and LOCK empty the ring, and
RIDDEN alone queues a RESTORE frame. (Of several due at once the order of the blocks decides: log 8.) -/
def Obligations.RestoreCountDecidesRidden : Prop :=
  (∀ (s : State) (ups : List TemplateUpset) (pups : List ParamUpset) (order : List BoundaryPart),
    s.awaitsBoundary → ∃ t, exec (.cycleBoundary ups pups order) s = .next t ∧
      (s.det.quiet = true → t.det.disarm = false) ∧
      (s.det.quiet = false → s.tmpl.ring.length ≠ 3 → t.det.disarm = s.det.disarm)) ∧
  (∀ (s : State) (ups : List TemplateUpset) (order : List BoundaryPart),
    s.awaitsBoundary → s.ctl.service = .injecting → s.port.storeErrors = [] →
    ∃ t, exec (.cycleBoundary ups [] order) s = .next t ∧ t.ctl.service = .injecting ∧
      t.det.restoreCount
        = (if s.det.quiet then min s.port.params.h (s.det.restoreCount + 1) else 0) ∧
      t.det.restoreNotice = s.det.restoreNotice ∧
      ((t.det.restoreCount = s.port.params.h ∧ s.det.restoreCount + 1 = s.port.params.h) ∨
          (s.det.restoreNotice = true ∧ 1 ≤ t.det.restoreCount) →
        s.ctl.open_ → t.ctl.bypass = .closing ∧ t.ctl.cause.isSome = true) ∧
      (s.ctl.bypass = .closing → t.ctl = s.ctl)) ∧
  ∀ (s : State) (ups : List TemplateUpset) (order : List BoundaryPart),
    s.awaitsBoundary → s.port.committed = true → s.ctl.service = .injecting →
    s.tmpl.injected = true → s.port.storeErrors = [] →
    ∃ t, exec (.cycleBoundary ups [] order) s = .next t ∧
      let count := if s.det.quiet then min s.port.params.h (s.det.restoreCount + 1) else 0
      let due := fun (c : Cause) => match c with
        | .ridden => (count = s.port.params.h ∧ s.det.restoreCount + 1 = s.port.params.h) ∨
            (s.det.restoreNotice = true ∧ 1 ≤ count)
        | .energy => t.en.band = .depleted ∨ s.tb.vdc ≤ s.port.params.vmin
        | .line => s.port.params.l ≤ t.su.ownAge ∧ t.su.isolated = false ∧ s.nExp ≠ 1
        | .lock => s.tb.lock = .coast ∧ s.port.params.coastLimit ≤ s.tb.coast + 1
        | .template => False
      ((∀ c, ¬ due c) →
        (∀ o r, s.ep.current = some o → s.ep.records.getLast? = some r →
          ∃ o' r', t.ep.current = some o' ∧ t.ep.records.getLast? = some r' ∧
            o'.closing = o.closing ∧ r'.hasElapsed = r.hasElapsed ∧ r'.elapsed = r.elapsed) ∧
        t.ctl = s.ctl ∧ t.dp.command = s.dp.command ∧ t.dp.duty = s.dp.duty ∧
        t.tmpl.ring.length = s.tmpl.ring.length ∧ (ups = [] → t.tmpl.ring = s.tmpl.ring) ∧
        t.line.queue.restore = s.line.queue.restore) ∧
      ∀ c, due c → (∀ d, due d → d = c) → s.ctl.open_ →
        t.ctl = { s.ctl with
          bypass := .closing, commandOpen := false, timer := 64, closeFailed := false, cause := some c } ∧
        t.dp.command = .all 0 ∧
        (∀ o r, s.ep.current = some o → s.ep.records.getLast? = some r →
          ∃ o' r', t.ep.current = some o' ∧ t.ep.records.getLast? = some r' ∧
            o'.closing = some (match c with
              | .ridden => EpisodeOutcome.ridden | .energy => .energy | .line => .line | .lock => .lock
              | .template => .template) ∧
            r'.outcome = r.outcome ∧ r'.hasElapsed = true ∧
            r'.elapsed = min 65535 (s.tb.counter - r.stamp + 1).toNat) ∧
        (c = .energy ∨ c = .lock → t.tmpl.ring = [] ∧ t.tmpl.emptied = true) ∧
        (c = .ridden ∨ c = .line → t.tmpl.emptied = s.tmpl.emptied ∧
          t.tmpl.ring.length = s.tmpl.ring.length ∧ (ups = [] → t.tmpl.ring = s.tmpl.ring)) ∧
        (c = .ridden → t.line.queue.restore.isSome = true) ∧
        (c ≠ .ridden → t.line.queue.restore = s.line.queue.restore)

/-- R18, R19, R21, R22, R31, R38, R48: outside INJECTING and with lock not COAST, a boundary appends the
completed cycle to the template ring when its lock-held flag is set, its three flags are clear and every
level lies within 6,945,767,424 to 10,401,873,920, dropping the oldest of four; otherwise the ring is
unchanged. A ring of four gives each template value as the sum of the four codes plus 2, divided by 4 and
floored, and makes a SYNCING station STANDBY when lock is LOCKED; the fourth cycle of a ring makes the
template VALID, which sets the windows and Q to 0 and clears the onset disarm flag. A SYNCING station whose
template is VALID already becomes STANDBY at a boundary that leaves lock LOCKED or COAST, whatever the
cycle, and stays SYNCING where lock is SEARCH or the ring cannot fill; no other service state changes at
such a boundary. -/
def Obligations.HealthyCycleIsAppended : Prop :=
  (∀ (s : State) (order : List BoundaryPart),
    s.awaitsBoundary → s.ctl.service ≠ .injecting → s.tb.lock ≠ .coast → s.tmpl.sound →
    s.tmpl.collecting.errors = [] → s.port.storeErrors = [] →
    ∃ t, exec (.cycleBoundary [] [] order) s = .next t ∧
      (s.tb.lockHeld = true ∧ s.tmpl.injected = false ∧ s.tmpl.disturbed = false ∧
          s.tmpl.emptied = false ∧
          (∀ p, 6945767424 ≤ s.tb.acc.get p ∧ s.tb.acc.get p ≤ 10401873920) →
        t.tmpl.ring = (if s.tmpl.ring.length < 4 then s.tmpl.ring else s.tmpl.ring.tail)
          ++ [s.tmpl.collecting] ∧
        (3 ≤ s.tmpl.ring.length →
          (∀ p k, k < 64 → (t.tmpl.values.codes.get p).getD k 0
            = ((t.tmpl.ring.map fun w => (w.codes.get p).getD k 0).sum + 2) / 4) ∧
          (∀ p, t.tmpl.lt.get p = ((t.tmpl.values.codes.get p).map fun c => c.natAbs ^ 2).sum) ∧
          (s.ctl.service = .syncing → s.tb.lock = .locked → t.ctl.service = .standby)) ∧
        (s.tmpl.ring.length = 3 → t.det.disarm = false ∧
          ∀ p, t.det.window.get p = List.replicate 16 0 ∧ t.det.q.get p = 0) ∧
        (s.tmpl.ring.length ≠ 3 → t.det.window = s.det.window ∧ t.det.q = s.det.q)) ∧
      (¬ (s.tb.lockHeld = true ∧ s.tmpl.injected = false ∧ s.tmpl.disturbed = false ∧
          s.tmpl.emptied = false ∧
          ∀ p, 6945767424 ≤ s.tb.acc.get p ∧ s.tb.acc.get p ≤ 10401873920) →
        t.tmpl.ring = s.tmpl.ring ∧ t.tmpl.values = s.tmpl.values ∧ t.tmpl.lt = s.tmpl.lt ∧
        t.det.window = s.det.window ∧ t.det.q = s.det.q)) ∧
  ∀ (s : State) (order : List BoundaryPart),
    s.awaitsBoundary → s.tmpl.sound → s.tmpl.collecting.errors = [] → s.port.storeErrors = [] →
    (s.tb.lock = .coast → s.tb.coast + 1 < s.port.params.coastLimit) →
    ∃ t, exec (.cycleBoundary [] [] order) s = .next t ∧
      (s.ctl.service = .syncing → s.valid = true → s.tb.lock ≠ .search → t.ctl.service = .standby) ∧
      (s.ctl.service = .syncing → s.tb.lock = .search ∨ s.tmpl.ring.length ≤ 2 →
        t.ctl.service = .syncing) ∧
      (s.ctl.service ≠ .syncing → t.ctl.service = s.ctl.service)

/-- R85, R87, R102: at a boundary of a committed station φ is 256 times the credit sum over n times U_full,
floored and at most 256, on the peer table before or after its aging, and the band is the one that φ selects
with the reclose depth counted in INJECTING only. -/
def Obligations.BandFollowsTheCabinetFraction : Prop :=
  ∀ (s : State) (ups : List TemplateUpset) (order : List BoundaryPart),
    s.awaitsBoundary → s.port.committed = true → s.port.storeErrors = [] →
    ∃ t, exec (.cycleBoundary ups [] order) s = .next t ∧
      (∃ u, (u = s.su ∨ u = t.su) ∧
        t.en.phi = min 256 (256 * (s.en.credit + u.creditSum u.memberPeers)
          / ((u.memberPeers.length + 1) * s.en.full))) ∧
      t.en.phi ≤ 256 ∧
      t.en.band = (if min 255 (s.port.params.bFull
            + (if s.ctl.service = .injecting then s.en.depth else 0) * s.port.params.bShift) ≤ t.en.phi
          then .full
        else if s.port.params.bMin ≤ t.en.phi then .envelope else .depleted)

/-- R90: the envelope fraction for e is that of the first segment whose end cycle is greater than e, or of
the last segment when e is 65535, for every table a commit admits (its last end cycle is 65535). -/
def Obligations.EnvelopeFractionOfASegment : Prop :=
  ∀ (before after : List (Nat × Nat)) (e end_ f : Nat),
    (∀ seg ∈ before, seg.1 ≤ e) →
    (e < end_ → envelopeFraction (before ++ (end_, f) :: after) e = f) ∧
    (e = 65535 → end_ = 65535 → envelopeFraction (before ++ [(end_, f)]) e = f)

/-- R88, R89, R91, R92, R93, R94: at a boundary in INJECTING the planner sets e from the onset stamp and the
plan from the band it has set: full support until the phases are judged (e of 2 or more) and in band FULL;
in ENVELOPE the envelope fraction with each gate on exactly when 65536 × Lx < f² × Lt; every gate off in
DEPLETED. DEPLETED, like a Vdc at or below Vmin, begins hand-back when the bypass is OPENING or OPEN (which
cause is taken, if several are raised at one boundary, the order of the blocks decides: log 8). -/
def Obligations.PlanOfABoundary : Prop :=
  ∀ (s : State) (ups : List TemplateUpset) (order : List BoundaryPart) (r : Record),
    s.awaitsBoundary → s.port.committed = true → s.ctl.service = .injecting →
    s.tmpl.injected = true → s.port.storeErrors = [] → s.ep.records.getLast? = some r →
    ∃ t, exec (.cycleBoundary ups [] order) s = .next t ∧
      t.en.elapsed = min 65535 (s.tb.counter - r.stamp + 1).toNat ∧ t.dp.plan = t.en.plan ∧
      (∀ p, t.en.plan.get p =
        if t.en.band = .depleted then ⟨false, 0⟩
        else if t.en.elapsed < 2 ∨ t.en.band = .full then ⟨true, 256⟩
        else ⟨decide (65536 * s.tb.acc.get p
            < envelopeFraction s.port.params.envelope t.en.elapsed ^ 2 * s.tmpl.lt.get p),
          envelopeFraction s.port.params.envelope t.en.elapsed⟩) ∧
      (t.en.band = .depleted ∨ s.tb.vdc ≤ s.port.params.vmin → s.ctl.open_ →
        t.ctl.bypass = .closing ∧ t.ctl.cause.isSome = true)

/-- R95, R109, R113, R134: the open record takes a boundary in INJECTING whatever order the blocks take it
in: its duration, the phases involved, the cycles in FULL or ENVELOPE by the band set, the least retained
level of each phase from the second elapsed cycle on, the peak share and the least member count, a
disagreement of the shares in force, and the clamp counts by the flags of the completed cycle, which the
record's own clamp block shows once one of them is not 0; its number, stamp, slot and outcome stay. (That a
station which becomes ISOLATED at the boundary makes no disagreement check there is the model's choice: log
34.) -/
def Obligations.OpenRecordTakesTheBoundary : Prop :=
  ∀ (s : State) (ups : List TemplateUpset) (order : List BoundaryPart) (o : OpenInfo) (r : Record),
    s.awaitsBoundary → s.port.committed = true → s.ctl.service = .injecting →
    s.port.storeErrors = [] → s.ep.current = some o → s.ep.records.getLast? = some r →
    ∃ t o' r', exec (.cycleBoundary ups [] order) s = .next t ∧
      t.ep.current = some o' ∧ t.ep.records.getLast? = some r' ∧
      t.ep.records.dropLast = s.ep.records.dropLast ∧
      r'.number = r.number ∧ r'.stamp = r.stamp ∧ r'.slot = r.slot ∧ r'.outcome = r.outcome ∧
      r'.depth = r.depth ∧ r'.peer = r.peer ∧
      r'.duration = min 65535 (r.duration + 1) ∧
      (∀ p, r'.phases.get p = (r.phases.get p || s.det.sag.get p)) ∧
      r'.full = (if t.en.band = .full then min 65535 (r.full + 1) else r.full) ∧
      r'.envelope = (if t.en.band = .envelope then min 65535 (r.envelope + 1) else r.envelope) ∧
      r'.minMembers = min r.minMembers t.su.count ∧ r'.peakShare = max r.peakShare t.su.share ∧
      o'.onsetCredit = o.onsetCredit ∧
      o'.clamps.cabinet
        = (if s.dp.flags.cabinet then min 255 (o.clamps.cabinet + 1) else o.clamps.cabinet) ∧
      o'.clamps.module = (if s.dp.flags.saturation || s.dp.flags.headroom
        then min 255 (o.clamps.module + 1) else o.clamps.module) ∧
      o'.clamps.foldBack
        = (if s.dp.flags.foldBack then min 255 (o.clamps.foldBack + 1) else o.clamps.foldBack) ∧
      (r'.hasClamps = true ↔ r.hasClamps = true ∨ 0 < o'.clamps.cabinet ∨ 0 < o'.clamps.module ∨
        0 < o'.clamps.foldBack) ∧
      r'.clamps = (if r'.hasClamps then o'.clamps else r.clamps) ∧
      (s.tmpl.injected = true → ∀ p, r'.retained.get p =
        if 2 ≤ min 65535 (s.tb.counter - r.stamp + 1).toNat then
          min (r.retained.get p) (if s.tmpl.lt.get p = 0 then 255
            else min 255 (256 * s.tb.acc.get p / s.tmpl.lt.get p))
        else r.retained.get p) ∧
      (s.su.selfMember = true ∧ t.su.isolated = false ∧ s.nExp ≠ 1 ∧
          (∀ k ∈ s.su.members, (s.su.entry k).refreshed.share = true) ∧
          s.dp.share + (s.su.members.map fun k => (s.su.entry k).share).sum ≠ 256 →
        r'.disagreements = min 255 (r.disagreements + 1)) ∧
      (¬ (s.su.selfMember = true ∧ t.su.isolated = false ∧ s.nExp ≠ 1 ∧
          (∀ k ∈ s.su.members, (s.su.entry k).refreshed.share = true) ∧
          s.dp.share + (s.su.members.map fun k => (s.su.entry k).share).sum ≠ 256) →
        r'.disagreements = r.disagreements)

/-- R101, R105, R106, R107: at a boundary of a committed station, in every service state, each PRESENT or
MISMATCHED entry ages by 1 up to 255, a PRESENT entry whose age reaches L becomes LOST with PEER_CHANGE and
keeps every other field, the other entries stay, and the silence counter and the own transmit age rise by 1
up to 255. A silence counter that reaches L with N_exp above 1 makes the station ISOLATED with
ISOLATION_CHANGE and the share 256 divided by N_exp, floored; otherwise the isolation state stays. -/
def Obligations.PeerTableAgesAtABoundary : Prop :=
  ∀ (s : State) (ups : List TemplateUpset) (pups : List ParamUpset) (order : List BoundaryPart),
    s.awaitsBoundary → s.port.committed = true → s.su.peers.length = 8 →
    ∃ t, exec (.cycleBoundary ups pups order) s = .next t ∧
      (∀ k, k < 8 → t.su.entry k =
        if (s.su.entry k).state = .present ∧ s.port.params.l ≤ min 255 ((s.su.entry k).age + 1) then
          { s.su.entry k with state := .lost, age := min 255 ((s.su.entry k).age + 1) }
        else if (s.su.entry k).state = .present ∨ (s.su.entry k).state = .mismatched then
          { s.su.entry k with age := min 255 ((s.su.entry k).age + 1) }
        else s.su.entry k) ∧
      (∀ k, k < 8 → (s.su.entry k).state = .present → (t.su.entry k).state = .lost →
        t.isPending .peerChange) ∧
      t.su.silence = min 255 (s.su.silence + 1) ∧ t.su.ownAge = min 255 (s.su.ownAge + 1) ∧
      (s.port.params.l ≤ min 255 (s.su.silence + 1) → 1 < s.nExp → s.su.isolated = false →
        t.su.isolated = true ∧ t.isPending .isolationChange ∧ t.su.share = 256 / s.nExp ∧
        t.dp.share = 256 / s.nExp) ∧
      (¬ (s.port.params.l ≤ min 255 (s.su.silence + 1) ∧ 1 < s.nExp) →
        t.su.isolated = s.su.isolated) ∧
      (s.su.isolated = true → t.su.isolated = true)

/-- R48, R103, R107, R108, R109, R110: at a boundary in INJECTING, and at one that leaves a station in
STANDBY, which it was in or enters from SYNCING, the member set is found and the share is set by the first
case that applies on the aged table, and handed to the datapath; stations that hold the same credits, not
all 0, compute cumulative shares that sum to exactly 256, and shares of 0 when every credit is 0; at a
boundary in START, IDLE_OUT, WITHDRAWN or LOCKOUT, or in SYNCING where the station cannot become ready, the
share and the member set stay unless the station becomes ISOLATED; in INJECTING an own transmit age of L or
more outside ISOLATED and SOLO begins hand-back when the bypass is OPENING or OPEN (which cause is taken, if
several are raised at one boundary, the order of the blocks decides: log 8). -/
def Obligations.ShareOfAnInjectingBoundary : Prop :=
  (∀ (s : State) (ups : List TemplateUpset) (order : List BoundaryPart),
    s.awaitsBoundary → s.port.committed = true → s.port.storeErrors = [] →
    ∃ t, exec (.cycleBoundary ups [] order) s = .next t ∧
      (s.ctl.service = .injecting ∨
          ((s.ctl.service = .standby ∨ s.ctl.service = .syncing) ∧ t.ctl.service = .standby) →
        t.dp.share = t.su.share ∧ t.su.members = t.su.memberPeers ∧
        (t.su.selfMember = true ↔ t.su.ownAge < s.port.params.l ∨ t.su.isolated = true ∨ s.nExp = 1) ∧
        t.su.count = t.su.members.length + (if t.su.selfMember then 1 else 0) ∧
        t.su.share =
          (if s.nExp = 1 then 256
          else if t.su.isolated then 256 / s.nExp
          else if s.port.params.l ≤ t.su.ownAge then 0
          else
            let before := t.su.creditSum (t.su.memberPeers.filter fun k => decide (k < s.own))
            let above := t.su.creditSum (t.su.memberPeers.filter fun k => decide (s.own < k))
            let whole := before + s.en.credit + above
            if whole = 0 then 0
            else 256 * (before + s.en.credit) / whole - 256 * before / whole)) ∧
      (s.ctl.service = .injecting → s.port.params.l ≤ t.su.ownAge → t.su.isolated = false → s.nExp ≠ 1 →
        s.ctl.open_ → t.ctl.bypass = .closing ∧ t.ctl.cause.isSome = true) ∧
      ((s.ctl.service ≠ .injecting ∧ s.ctl.service ≠ .standby ∧ s.ctl.service ≠ .syncing) ∨
          (s.ctl.service = .syncing ∧ (s.tb.lock = .search ∨ s.tmpl.ring.length ≤ 2)) →
        t.su.isolated = s.su.isolated →
        t.su.share = s.su.share ∧ t.dp.share = s.dp.share ∧ t.su.members = s.su.members ∧
        t.su.selfMember = s.su.selfMember ∧ t.su.count = s.su.count)) ∧
  ∀ credits : List Nat,
    ((List.range credits.length).map fun k =>
      cumulativeShare (credits.take k).sum (credits.getD k 0) (credits.drop (k + 1)).sum).sum
      = if credits.sum = 0 then 0 else 256

/-- R26, R27, R28, R31, R34, R49, R52, R66, R73, R151, R152, R153: a single-bit error in a word that a
sample event, the recomputation of a boundary or the parameter scrub reads is corrected and counted, and the
values are as without it. A double-bit error in a template value, in a held word that the scrub of a sample
event reads, or in a word that a recomputation reads (four held cycles with the one appended) empties the
ring, with the metric and the commands at 0 and the quiet flag of a sample event clear, is reported as
TEMPLATE_ECC with its phase, takes a STANDBY station to SYNCING, and at a sample event begins hand-back with
cause TEMPLATE in INJECTING with the bypass OPENING or OPEN; a recomputation that finds one leaves the
template values. A double-bit error in the parameter store ends the scrub and trips the station. A report of
a boundary is stamped with the completed cycle and slot 63 (which words a run of reads meets first matters
for none of these: log 11. That the quiet flag is clear too at a sample event whose scrub finds the error in
a held word is the model's reading: log 23). -/
def Obligations.ProtectedWordsAreChecked : Prop :=
  let alone := fun (s : State) (v : SenseInput) =>
    s.quietLink v ∧ s.quietFeedback v ∧ s.fm.first.kind = none
  (∀ (s : State) (v : SenseInput) (order : List SamplePart) (p : Phase),
    s.awaitsSample → s.valid = true → s.tmpl.sound →
    (∃ t, exec (.sampleEvent v [⟨.value p s.tb.nextSlot, false⟩] order) s = .next t ∧
      t.fm.corrected = min 65535 (s.fm.corrected + 1) ∧ t.isPending .eccCorrected ∧
      t.tmpl.values = s.tmpl.values ∧ t.tmpl.ring = s.tmpl.ring ∧
      ∀ q, t.det.q.get q = s.metricNext v q) ∧
    (0 < s.det.qOn → (∀ q, ¬ s.overcurrentNext v q) →
      ∃ t, exec (.sampleEvent v [⟨.value p s.tb.nextSlot, true⟩] order) s = .next t ∧
        t.tmpl.ring = [] ∧ t.tmpl.emptied = true ∧ (∀ q, t.det.q.get q = 0) ∧
        t.det.quiet = false ∧ (t.ep.next = s.ep.next → t.dp.g = s.dp.g) ∧
        t.dp.command = .all 0 ∧ t.fm.first.kind.isSome = true ∧ t.fm.corrected = s.fm.corrected ∧
        (alone s v → t.fm.first.kind = some .templateEcc ∧ t.fm.first.phase = some p ∧
          t.fm.first.detail = none ∧ t.fm.first.cycle = s.tb.counter ∧ t.fm.first.slot = s.tb.nextSlot) ∧
        (s.ctl.service = .standby → s.ctl.bypass = .closed →
          (s.ctl.watch = false ∨ v.feedbackHigh = false ∨ s.ctl.uncommanded < 3) →
          t.ctl.service = .syncing) ∧
        (s.ctl.service = .injecting → s.ctl.open_ → s.quietFeedback v →
          t.ctl.service = .injecting ∧ t.ctl.bypass = .closing ∧ t.ctl.cause = some .template))) ∧
  (∀ (s : State) (v : SenseInput) (order : List SamplePart) (i : Nat) (p : Phase),
    s.awaitsSample → s.tmpl.sound → i < s.tmpl.ring.length →
    (∃ t, exec (.sampleEvent v [⟨.held i p s.tb.nextSlot, false⟩] order) s = .next t ∧
      t.fm.corrected = min 65535 (s.fm.corrected + 1) ∧ t.isPending .eccCorrected ∧
      t.tmpl.values = s.tmpl.values ∧ t.tmpl.ring = s.tmpl.ring) ∧
    ((∀ q, ¬ s.overcurrentNext v q) →
      ∃ t, exec (.sampleEvent v [⟨.held i p s.tb.nextSlot, true⟩] order) s = .next t ∧
        t.tmpl.ring = [] ∧ t.tmpl.emptied = true ∧ t.det.quiet = false ∧
        t.fm.first.kind.isSome = true ∧ t.fm.corrected = s.fm.corrected ∧
        (alone s v → t.fm.first.kind = some .templateEcc ∧ t.fm.first.phase = some p ∧
          t.fm.first.detail = none ∧ t.fm.first.cycle = s.tb.counter ∧ t.fm.first.slot = s.tb.nextSlot) ∧
        (s.valid = true → (∀ q, t.det.q.get q = 0) ∧ t.dp.command = .all 0) ∧
        (s.valid = true → s.ctl.service = .standby → s.ctl.bypass = .closed →
          (s.ctl.watch = false ∨ v.feedbackHigh = false ∨ s.ctl.uncommanded < 3) →
          (∀ q, s.metricNext v q < s.det.qOn) → t.ctl.service = .syncing) ∧
        (s.ctl.service = .injecting → s.ctl.open_ → s.quietFeedback v →
          t.ctl.service = .injecting ∧ t.ctl.bypass = .closing ∧ t.ctl.cause = some .template))) ∧
  (∀ (s : State) (order : List BoundaryPart) (w : TemplateWord) (p : Phase) (k : Nat),
    s.awaitsBoundary → s.tmpl.sound → s.tmpl.collecting.errors = [] → s.port.storeErrors = [] →
    s.ctl.service ≠ .injecting → s.tb.lock = .locked → s.tb.lockHeld = true →
    s.tmpl.injected = false → s.tmpl.disturbed = false → s.tmpl.emptied = false →
    (∀ q, 6945767424 ≤ s.tb.acc.get q ∧ s.tb.acc.get q ≤ 10401873920) →
    3 ≤ s.tmpl.ring.length → s.tmpl.ring.length ≤ 4 → k < 64 →
    (w = .collecting p k ∨ ∃ i, w = .held i p k ∧ s.tmpl.ring.length ≤ i + 3 ∧ i < s.tmpl.ring.length) →
    (∃ t u, exec (.cycleBoundary [⟨w, false⟩] [] order) s = .next t ∧
      exec (.cycleBoundary [] [] order) s = .next u ∧
      t.tmpl = u.tmpl ∧ t.ctl.service = u.ctl.service ∧ t.det = u.det ∧
      t.fm = { u.fm with corrected := min 65535 (s.fm.corrected + 1) } ∧ t.isPending .eccCorrected) ∧
    ∃ t, exec (.cycleBoundary [⟨w, true⟩] [] order) s = .next t ∧
      t.tmpl.ring = [] ∧ t.tmpl.emptied = true ∧ t.tmpl.values = s.tmpl.values ∧ t.tmpl.lt = s.tmpl.lt ∧
      (∀ q, t.det.q.get q = 0) ∧ t.dp.command = .all 0 ∧ t.fm.corrected = s.fm.corrected ∧
      (s.fm.first.kind = none → t.fm.first.kind = some .templateEcc ∧ t.fm.first.phase = some p ∧
        t.fm.first.detail = none ∧ t.fm.first.cycle = s.tb.counter ∧ t.fm.first.slot = 63) ∧
      (s.fm.first.kind ≠ none → t.fm.first = { s.fm.first with
        later := min 255 (s.fm.first.later + 1) }) ∧
      (s.ctl.service = .standby ∨ s.ctl.service = .syncing → t.ctl.service = .syncing) ∧
      (s.ctl.service ≠ .standby → t.ctl.service = s.ctl.service)) ∧
  ∀ (s : State) (order : List BoundaryPart) (j : Nat),
    s.awaitsBoundary → s.tmpl.sound → s.tmpl.collecting.errors = [] → s.port.storeErrors = [] →
    s.fm.scrub = true → j < 29 →
    (∃ t, exec (.cycleBoundary [] [⟨j, false⟩] order) s = .next t ∧
      t.fm = { s.fm with corrected := min 65535 (s.fm.corrected + 1) } ∧ t.isPending .eccCorrected ∧
      t.port.store = s.port.store ∧ t.port.storeErrors = []) ∧
    ∃ t, exec (.cycleBoundary [] [⟨j, true⟩] order) s = .next t ∧
      t.fm.scrub = false ∧ t.fm.corrected = s.fm.corrected ∧
      (s.fm.first.kind = none → t.fm.first.kind = some .parameterEcc ∧
        t.fm.first.detail = some (2 * j) ∧ t.fm.first.phase = none ∧
        t.fm.first.cycle = s.tb.counter ∧ t.fm.first.slot = 63) ∧
      (s.fm.first.kind ≠ none → t.fm.first = { s.fm.first with
        later := min 255 (s.fm.first.later + 1) }) ∧
      (s.ctl.service ≠ .idleOut → s.ctl.service ≠ .lockout →
        t.ctl.service = .lockout ∧ t.dp.command = .all 0 ∧ t.ctl.charge = false)

/-! ## Counters and timers -/

/-- R42, R52, R53, R120, R135, R143, R144: the command RIDDEN, with the restore count at H after a boundary
in INJECTING and the bypass OPENING or OPEN, begins hand-back: the bypass is commanded closed with a bound
of 64, the commands are 0, the record keeps outcome OPEN and takes the closing outcome and the elapsed cycle
of the boundary, a RESTORE frame is queued, one already pending keeping its place, and the trigger RESTORE
makes each channel armed for it CAPTURING with the completed cycle as its trigger cycle; where the capture
work of that boundary has been taken it asks for its copy at once, or ends REGION_FULL. All else stays, the
template ring, the capture memory, the halves and the other channels among it. The first cause taken
decides: a cause taken after another, whatever both are and whatever the state, changes nothing. (When the
command finds its condition is the model's choice: log 7; so is that a copy asked for late follows those
asked for before it: log 35.) -/
def Obligations.RiddenBeginsHandback : Prop :=
  (∀ (s : State) (n : Stamp) (o : OpenInfo) (r : Record),
    s.held = .released → s.inst.boundary = some n → s.ctl.service = .injecting → s.ctl.open_ →
    s.det.restoreCount = s.port.params.h → s.ep.current = some o → s.ep.records.getLast? = some r →
    ∃ t, exec .ridden s = .next t ∧
      t = { s with ctl := t.ctl, dp := t.dp, line := t.line, ep := t.ep, cap := t.cap, port := t.port
                   inst := { s.inst with moved := true, work := none } } ∧
      t.ctl = { s.ctl with
        bypass := .closing, commandOpen := false, timer := 64, closeFailed := false
        cause := some .ridden } ∧
      t.dp = { s.dp with command := .all 0, duty := .all 0 } ∧
      t.line = { s.line with queue := { s.line.queue with restore := t.line.queue.restore } } ∧
      t.line.queue.restore = some (s.line.queue.restore.getD ⟨0, true⟩) ∧
      t.ep = { s.ep with records := t.ep.records, current := some { o with closing := some .ridden } } ∧
      t.ep.records.dropLast = s.ep.records.dropLast ∧
      t.ep.records.getLast? = some { r with
        hasElapsed := true, elapsed := min 65535 (n - r.stamp + 1).toNat } ∧
      s.triggers t .restore n s.inst.captured ∧ t.port = { s.port with pending := t.port.pending } ∧
      s.port.pending &&& t.port.pending = s.port.pending ∧
      (s.inst.captured = false ∨ (∀ one, (s.cap.channel one).write ≤ (s.cap.channel one).last) →
        t.port = s.port)) ∧
  ∀ (s : State) (first second : Cause), (s.takeCause first).takeCause second = s.takeCause first

/-- R101, R104, R143, R144: the command PEER_LOSS, with a PRESENT entry's age at L, makes it LOST with all
other fields kept, raises PEER_CHANGE, and makes each channel armed for PEER_LOSS CAPTURING with the
completed cycle as its trigger cycle, which asks for its copy at once where the capture work of that
boundary has been taken, or ends REGION_FULL; all else stays. (When the command finds its condition is the
model's choice: log 7; so is that a copy asked for late follows those asked for before it: log 35.) -/
def Obligations.PeerLossLosesTheEntry : Prop :=
  ∀ (s : State) (n : Stamp) (k : BitVec 3),
    s.held = .released → s.inst.boundary = some n → s.port.committed = true →
    (s.su.entry k.toNat).state = .present → s.port.params.l ≤ (s.su.entry k.toNat).age →
    ∃ t, exec (.peerLoss k) s = .next t ∧
      t = { s with
        su := { s.su with peers := s.su.peers.set k.toNat { s.su.entry k.toNat with state := .lost } }
        port := { s.port with pending := t.port.pending }, cap := t.cap
        inst := { s.inst with work := none } } ∧
      t.isPending .peerChange ∧ s.triggers t .peerLoss n s.inst.captured ∧
      s.port.pending &&& t.port.pending = s.port.pending ∧
      (s.inst.captured = false ∨ (∀ one, (s.cap.channel one).write ≤ (s.cap.channel one).last) →
        t.port.pending = s.port.pending ||| Event.peerChange.bit)

/-- R105, R106, R107, R110: the command ISOLATION, with the silence counter at L and N_exp above 1, makes
the station ISOLATED with the share 256 divided by N_exp, floored; the command ONSET_BARRED, with the own
transmit age at L, leaves a station in STANDBY or INJECTING a share of 0 and, when its bypass is OPENING or
OPEN, begins hand-back with cause LINE (log 7). -/
def Obligations.SilenceIsolatesAndAgeBars : Prop :=
  (∀ (s : State) (n : Stamp),
    s.held = .released → s.inst.boundary = some n → s.port.committed = true →
    s.port.params.l ≤ s.su.silence → 1 < s.nExp → s.su.isolated = false →
    ∃ t, exec .isolation s = .next t ∧
      t = { s with
        su := { s.su with
          isolated := true, share := 256 / s.nExp
          members := t.su.members, selfMember := t.su.selfMember, count := t.su.count }
        dp := { s.dp with share := 256 / s.nExp }
        port := { s.port with pending := s.port.pending ||| 0x0100#16 }
        inst := { s.inst with work := none } }) ∧
  ∀ (s : State) (n : Stamp),
    s.held = .released → s.inst.boundary = some n → s.port.committed = true →
    s.port.params.l ≤ s.su.ownAge → s.su.isolated = false → s.nExp ≠ 1 → s.su.silence ≠ 0 →
    ∃ t, exec .onsetBarred s = .next t ∧
      (s.ctl.service = .standby → t.su.share = 0 ∧ t.dp = { s.dp with share := 0 } ∧ t.ctl = s.ctl) ∧
      (s.ctl.service = .injecting → t.su.share = 0 ∧ t.dp.share = 0 ∧
        (s.ctl.open_ → t.ctl = { s.ctl with
          bypass := .closing, commandOpen := false, timer := 64, closeFailed := false
          cause := some .line } ∧ t.dp.command = .all 0)) ∧
      t.su.peers = s.su.peers ∧ t.tmpl = s.tmpl ∧ t.tb = s.tb ∧ s.sameMemory t

/-- R119, R120, R121, R126, R127: at a boundary an injecting station queues a SHARE frame; from the commit
onward the throttle counter falls by 1, and at 0 queues a STATUS frame in SYNCING, STANDBY or WITHDRAWN; the
silent timer, while it runs, falls by 1, and at 0 sets TEC to 0 and returns the line to ACTIVE, at once in
SILENT or as the state to return to in STUCK. A frame already pending keeps its place, a frame queued there
waits, and the slot-0 sample event makes every pending frame eligible. (The commands STATUS_THROTTLE and
SILENT_TIMER_EXPIRY sent by themselves do the same on the counter and the timer at 0: log 7.) -/
def Obligations.ThrottleQueuesAndSilenceEnds : Prop :=
  (∀ (s : State) (n : Stamp),
    s.held = .released → s.inst.boundary = some n → s.port.committed = true → s.line.throttle = 0 →
    (s.ctl.service = .syncing ∨ s.ctl.service = .standby ∨ s.ctl.service = .withdrawn) →
    s.line.queue.status = none →
    exec .statusThrottle s = .next { s with
      line := { s.line with queue := { s.line.queue with status := some ⟨0, true⟩ } }
      inst := { s.inst with work := none } }) ∧
  (∀ s : State, s.held = .released → s.line.state = .silent → s.line.silentTimer = 0 →
    exec .silentTimerExpiry s = .next { s with
      line := { s.line with tec := 0, state := .active }
      port := { s.port with pending := s.port.pending ||| 0x0080#16 } }) ∧
  (∀ s : State, s.held = .released → s.line.state = .stuck → s.line.back = .silent →
    s.line.silentTimer = 0 →
    exec .silentTimerExpiry s = .next { s with line := { s.line with tec := 0, back := .active } }) ∧
  (∀ (s : State) (ups : List TemplateUpset) (order : List BoundaryPart),
    s.awaitsBoundary → s.port.storeErrors = [] →
    ∃ t, exec (.cycleBoundary ups [] order) s = .next t ∧
      let queued := fun (p : Option Pending) => some (p.getD ⟨0, true⟩)
      let sends := s.ctl.service = .syncing ∨ s.ctl.service = .standby ∨ s.ctl.service = .withdrawn
      let runs := s.line.state = .silent ∨ (s.line.state = .stuck ∧ s.line.back = .silent)
      t.line.queue.onset = s.line.queue.onset ∧ t.line.queue.depart = s.line.queue.depart ∧
      (s.ctl.service = .injecting → t.line.queue.share = queued s.line.queue.share) ∧
      (s.ctl.service ≠ .injecting → t.line.queue.share = s.line.queue.share) ∧
      (s.port.committed = true → t.line.throttle = s.line.throttle - 1 ∧
        (s.line.throttle ≤ 1 → sends → t.line.queue.status = queued s.line.queue.status) ∧
        (2 ≤ s.line.throttle ∨ ¬ sends → t.line.queue.status = s.line.queue.status)) ∧
      (s.port.committed = false →
        t.line.throttle = s.line.throttle ∧ t.line.queue.status = s.line.queue.status) ∧
      (runs → t.line.silentTimer = s.line.silentTimer - 1) ∧
      (runs → s.line.silentTimer ≤ 1 → t.line.tec = 0 ∧
        (s.line.state = .silent → t.line.state = .active ∧ t.isPending .lineState) ∧
        (s.line.state = .stuck → t.line.state = .stuck ∧ t.line.back = .active)) ∧
      (¬ (runs ∧ s.line.silentTimer ≤ 1) →
        t.line.tec = s.line.tec ∧ t.line.state = s.line.state ∧ t.line.back = s.line.back) ∧
      (¬ runs → t.line.silentTimer = s.line.silentTimer) ∧
      t.line.seq = s.line.seq ∧ t.line.tracking = s.line.tracking ∧ t.line.mute = s.line.mute ∧
      t.line.dropped = s.line.dropped ∧ t.line.recErrors = s.line.recErrors) ∧
  ∀ (s : State) (v : SenseInput) (ups : List TemplateUpset) (order : List SamplePart), s.awaitsSample →
    ∃ t, exec (.sampleEvent v ups order) s = .next t ∧
      (s.tb.nextSlot = 0 → ∀ c p, t.line.queue.get c = some p → p.waits = false) ∧
      (s.ctl.service = .lockout ∨ t.ctl.service ≠ .lockout → ∀ c, c = .depart ∨ c = .share ∨ c = .status →
        t.line.queue.get c = (s.line.queue.get c).map fun p => { p with
          waits := p.waits && decide (s.tb.nextSlot ≠ 0) }) ∧
      t.line.throttle = s.line.throttle ∧ t.line.silentTimer = s.line.silentTimer ∧
      t.line.tec = s.line.tec ∧ t.line.state = s.line.state

/-- R12, R13, R14, R23, R24, R49, R52: at a boundary in COAST the coast counter rises by 1 with the period
and the confirm count held; at the coast limit lock becomes SEARCH with the nominal period, no confirm count
and no last crossing, the template ring is emptied, a STANDBY station with a VALID template becomes SYNCING,
and an injecting one with the bypass OPENING or OPEN begins hand-back (with cause LOCK, or with one raised
before it in the same boundary, whose order is an operand: log 8). The command COAST_LIMIT_REACHED sent by
itself, with the counter at the limit, does the same (log 7). -/
def Obligations.CoastLimitReturnsToSearch : Prop :=
  (∀ (s : State) (ups : List TemplateUpset) (order : List BoundaryPart),
    s.awaitsBoundary → s.tb.lock = .coast → s.tb.lockHeld = false → s.port.committed = true →
    s.port.storeErrors = [] →
    ∃ t, exec (.cycleBoundary ups [] order) s = .next t ∧ t.tb.coast = s.tb.coast + 1 ∧
      t.tb.armed = s.tb.armed ∧ t.tb.windowCentre = s.tb.windowCentre ∧
      (s.tb.coast + 1 < s.port.params.coastLimit →
        t.tb.lock = .coast ∧ t.tb.period = s.tb.period ∧ t.tb.confirm = s.tb.confirm ∧
        t.tb.lastCrossing = s.tb.lastCrossing ∧
        (s.ctl.service ≠ .injecting → t.tmpl.ring.length = s.tmpl.ring.length)) ∧
      (s.port.params.coastLimit ≤ s.tb.coast + 1 →
        t.tb.lock = .search ∧ t.tb.lockHeld = false ∧ t.isPending .lockChange ∧
        t.tb.period = (if s.port.params.frequency = 0 then 20000 else 16667) ∧ t.tb.confirm = 0 ∧
        t.tb.lastCrossing = none ∧ t.tmpl.ring = [] ∧ t.tmpl.emptied = true ∧
        (s.valid = true → (∀ p, t.det.q.get p = 0) ∧ t.dp.command = .all 0 ∧
          (s.ctl.service = .standby → t.ctl.service = .syncing)) ∧
        (s.ctl.service = .syncing → t.ctl.service = .syncing) ∧
        (s.ctl.service = .injecting → t.ctl.service = .injecting) ∧
        (s.ctl.service = .injecting → s.ctl.open_ →
          t.ctl.bypass = .closing ∧ t.ctl.cause.isSome = true))) ∧
  ∀ (s : State) (n : Stamp),
    s.held = .released → s.inst.boundary = some n → s.tb.lock = .coast →
    s.port.params.coastLimit ≤ s.tb.coast → s.port.committed = true →
    ∃ t, exec .coastLimitReached s = .next t ∧
      t.tb = { s.tb with
        lock := .search, lockHeld := false, confirm := 0, lastCrossing := none, afterNext := none
        period := (if s.port.params.frequency = 0 then 20000 else 16667)
        nextSlot0 := s.tb.slot0
          + BitVec.ofNat 32 (if s.port.params.frequency = 0 then 20000 else 16667) } ∧
      t.tmpl = { s.tmpl with ring := [], emptied := true } ∧ t.isPending .lockChange ∧
      (s.ctl.service = .injecting → s.ctl.open_ →
        t.ctl.service = .injecting ∧ t.ctl.bypass = .closing ∧ t.ctl.cause = some .lock) ∧
      (s.ctl.service = .standby → s.valid = true → t.ctl.service = .syncing ∧
        (∀ p, t.det.q.get p = 0)) ∧
      (s.ctl.service ≠ .injecting → s.ctl.service ≠ .standby → t.ctl = s.ctl) ∧
      t.su = s.su ∧ t.fm = s.fm ∧ s.sameMemory t

/-- R51, R53, R56, R57, R58, R61, R122, R137: the three failures of the bypass trip the station to LOCKOUT:
an opening that ran out and a closing that ran out in INJECTING close the record as ABORTED_FAULT with the
fault's kind, and an uncommanded opening in SYNCING, STANDBY or WITHDRAWN commands the bypass closed with
the gates enabled. The commands are 0, one DEPART frame alone is queued, and the charger is off (log 7). -/
def Obligations.BypassFailuresTripTheStation : Prop :=
  (∀ (s : State) (c : Instr) (k : FaultKind) (o : OpenInfo),
    s.held = .released → s.ctl.service = .injecting → s.ctl.timer = 0 → s.ep.current = some o →
    (c = .bypassOpenFail ∧ k = .bypassOpenFail ∧ s.ctl.bypass = .opening ∧
        s.tb.feedbackOpen = false) ∨
      (c = .bypassCloseFail ∧ k = .bypassCloseFail ∧ s.ctl.bypass = .closing ∧
        s.tb.feedbackOpen = true ∧ s.ctl.closeFailed = false) →
    ∃ t, exec c s = .next t ∧
      t.ctl.service = .lockout ∧ t.ctl.bypass = .closing ∧ t.ctl.gates = s.ctl.gates ∧
      t.ctl.timer = (if s.ctl.bypass = .opening then 64 else 0) ∧ t.ctl.cause = none ∧
      t.ctl.charge = false ∧ t.en.chgEn = false ∧ t.dp.command = .all 0 ∧
      t.ep.current = none ∧
      t.ep.records = modLast (fun r => { r with
        outcome := .abortedFault, hasFault := true, fault := some k
        energy := o.onsetCredit - s.en.credit }) s.ep.records ∧
      t.isPending .episodeClosed ∧
      (∃ p, t.line.queue = { TxQueue.empty with depart := some p }) ∧ t.line.mute = .departOnly ∧
      (s.fm.first.kind = none → t.fm.first.kind = some k ∧ t.fm.first.service = .injecting) ∧
      (s.fm.first.kind ≠ none → t.fm.first = { s.fm.first with
        later := min 255 (s.fm.first.later + 1) }) ∧
      t.tb = s.tb ∧ t.tmpl = s.tmpl ∧ t.su = s.su ∧ s.sameMemory t) ∧
  ∀ s : State,
    s.held = .released → s.ctl.bypass = .closed → 4 ≤ s.ctl.uncommanded →
    (s.ctl.service = .syncing ∨ s.ctl.service = .standby ∨ s.ctl.service = .withdrawn) →
    ∃ t, exec .bypassUncommanded s = .next t ∧
      t.ctl.service = .lockout ∧ t.ctl.bypass = .closing ∧ t.ctl.gates = true ∧ t.ctl.timer = 64 ∧
      t.ctl.commandOpen = false ∧ t.ctl.uncommanded = 0 ∧ t.ctl.charge = false ∧
      t.en.chgEn = false ∧ t.dp.command = .all 0 ∧ t.ep = s.ep ∧
      (∃ p, t.line.queue = { TxQueue.empty with depart := some p }) ∧ t.line.mute = .departOnly ∧
      t.tb = s.tb ∧ t.tmpl = s.tmpl ∧ t.su = s.su ∧ s.sameMemory t

/-- R46, R56, R158, R163: the start window running out makes a START station IDLE_OUT with START_EXPIRED and
has no effect once it is stopped; after 64 sample events the uncommanded-opening test is enabled; an EVENTS
write that clears a pending bit releases NOTIFY, and the end of the release gap, in every state, makes
NOTIFY follow the pending and enabled bits. (When each command comes is the sender's: log 7, log 19.) -/
def Obligations.PortTimersRunOut : Prop :=
  (∀ s : State, s.held = .released → s.port.window = true → s.ctl.service = .start →
    exec .startExpired s = .next { s with
      ctl := { s.ctl with service := .idleOut, charge := false }
      en := { s.en with chgEn := false }
      port := { s.port with window := false, pending := s.port.pending ||| 0x2000#16 } }) ∧
  (∀ s : State, s.held = .released → s.port.window = false → exec .startExpired s = .next s) ∧
  (∀ s : State, s.held = .released → 64 ≤ s.ctl.samples →
    exec .uncommandedHoldOffEnd s = .next { s with ctl := { s.ctl with watch := true } }) ∧
  (∀ (s : State) (v : BitVec 16), s.held = .released → s.port.pending &&& v ≠ 0 →
    ∃ t, exec (.eventsWrite v) s = .next t ∧ t.port.gap = true ∧ t.notifyLow = false) ∧
  ∀ s : State, s.held = .released →
    ∃ t, exec .releaseGapEnd s = .next t ∧ t = { s with port := { s.port with gap := false } } ∧
      t.notifyLow = decide (s.port.pending &&& s.port.enable ≠ 0)

/-- R144, R145, R146: the end of a block copy leaves the completed half of the live buffer in the channel's
write block, word by word, high byte first, and no other byte of the capture memory changed; the count falls
and the write block advances; the channel is then IDLE, ABORTED on a pending disarm and COMPLETE at a count
of 0, with its end event, and a waiting copy is next. (The bytes are stated of a memory in its canonical
form, which every step keeps: StepKeepsTheBuffersAndFactors.) -/
def Obligations.BlockCopyCompletes : Prop :=
  ∀ (s : State) (one : Bool) (rest : List Bool),
    s.held = .released → s.cap.copies = one :: rest → s.cap.completed.length = 384 →
    ∃ t, exec .blockCopyEnd s = .next t ∧
      t = { s with cap := t.cap, port := { s.port with pending := t.port.pending } } ∧
      (s.cap.memory.wf = true →
        (∀ w, w < 384 → t.cap.memory.wordBytes (s.cap.channel one).write w
          = [highByte (s.cap.completed.getD w 0), lowByte (s.cap.completed.getD w 0)]) ∧
        ∀ a, a < 768 * (s.cap.channel one).write ∨ 768 * ((s.cap.channel one).write + 1) ≤ a →
          t.cap.memory.read a = s.cap.memory.read a) ∧
      t.cap.copies = rest ∧ t.cap.completed = s.cap.completed ∧ t.cap.filling = s.cap.filling ∧
      t.cap.channel (!one) = s.cap.channel (!one) ∧
      (t.cap.channel one).count = (s.cap.channel one).count - 1 ∧
      (t.cap.channel one).write = (s.cap.channel one).write + 1 ∧
      ((s.cap.channel one).disarm = true →
        (t.cap.channel one).state = .idle ∧ (t.cap.channel one).status = .aborted ∧
        t.isPending (if one then .capture1End else .capture0End)) ∧
      ((s.cap.channel one).disarm = false → (s.cap.channel one).count ≤ 1 →
        (t.cap.channel one).state = .idle ∧ (t.cap.channel one).status = .complete ∧
        t.isPending (if one then .capture1End else .capture0End)) ∧
      ((s.cap.channel one).disarm = false → 2 ≤ (s.cap.channel one).count →
        (t.cap.channel one).state = (s.cap.channel one).state ∧
        (t.cap.channel one).status = (s.cap.channel one).status ∧ t.port = s.port)

/-! ## The share line -/

/-- R115, R117, R118, R128: the bits of every frame that is well formed (a station number 0 to 7, a length
from the least of its class to 8, a state code 1 to 5) are accepted by the receive checks as that very
frame; they are 28 + 9n bits long with the intermission. -/
def Obligations.FrameSurvivesTheLine : Prop :=
  ∀ f : Frame, f.station < 8 → f.cls.length ≤ f.payload.length → f.payload.length ≤ 8 →
    (∃ b, f.payload[1]? = some b ∧ 1 ≤ b.toNat % 16 ∧ b.toNat % 16 ≤ 5) →
    receiveFrame f.bits = some f ∧ f.bits.length = 28 + 9 * f.payload.length

/-- R97, R98, R99, R100, R104, R105, R128: an accepted frame of a peer, met on an idle line or followed
already, sets its entry's state by fingerprint and class, replaces the fields its length covers, counts the
missed frames from a PRESENT or MISMATCHED entry (none for an equal sequence number), and returns the
silence counter to 0, ending isolation with ISOLATION_CHANGE; PEER_CHANGE is raised on a change of the
entry's state or of its member status; before a commit the frame is discarded. The share in force and the
other entries stay, and the line is idle. (Where the frame ends the isolation of an injecting station whose
own transmit age is L or more, the command in force stays until the next sample event: that is the model's
choice, log 39, since R110 has the commands 0 from that arrival.) -/
def Obligations.AcceptedFrameIsTaken : Prop :=
  ∀ (s : State) (bits : List Bool) (f : Frame),
    s.held = .released → s.hears bits f → f.station ≠ s.own → s.su.peers.length = 8 →
    let member := fun (e : PeerEntry) =>
      e.state = .present ∧ (e.reported = .standby ∨ e.reported = .injecting)
    (s.port.committed = false → ∃ t, exec (.shareFrameReceived bits) s = .next t ∧
      t = { s with line := t.line } ∧ t.line.tracking = .idle) ∧
    (s.port.committed = true → ∃ t e, exec (.shareFrameReceived bits) s = .next t ∧
      t.line.tracking = .idle ∧
      t.su = { s.su with peers := s.su.peers.set f.station e, silence := 0, isolated := false } ∧
      (e.fpMatch = true ↔ f.payload[0]? = some s.port.fingerprint) ∧
      e.state = (if e.fpMatch then (if f.cls = .depart then .departed else .present) else .mismatched) ∧
      ServiceState.ofFrame ((f.payload.getD 1 0).toNat % 16) = some e.reported ∧
      e.seq = some ((f.payload.getD 1 0).toNat / 16) ∧ e.age = 0 ∧
      e.credit = (if 4 ≤ f.payload.length
        then 256 * (f.payload.getD 2 0).toNat + (f.payload.getD 3 0).toNat
        else (s.su.entry f.station).credit) ∧
      e.flags = (if 5 ≤ f.payload.length then f.payload.getD 4 0 else (s.su.entry f.station).flags) ∧
      e.share = (if 7 ≤ f.payload.length
        then 256 * (f.payload.getD 5 0).toNat + (f.payload.getD 6 0).toNat
        else (s.su.entry f.station).share) ∧
      e.episode = (if 8 ≤ f.payload.length then f.payload.getD 7 0
        else (s.su.entry f.station).episode) ∧
      e.refreshed = ⟨decide (4 ≤ f.payload.length), decide (5 ≤ f.payload.length),
        decide (7 ≤ f.payload.length), decide (8 ≤ f.payload.length)⟩ ∧
      (∀ q, (s.su.entry f.station).seq = some q → q < 16 →
        ((s.su.entry f.station).state = .present ∨ (s.su.entry f.station).state = .mismatched) →
        e.seq ≠ some q → ∃ gap, gap < 16 ∧ (q + 1 + gap) % 16 = (f.payload.getD 1 0).toNat / 16 ∧
          e.missed = min 255 ((s.su.entry f.station).missed + gap)) ∧
      (e.seq = (s.su.entry f.station).seq → e.missed = (s.su.entry f.station).missed) ∧
      ((s.su.entry f.station).state ≠ .present → (s.su.entry f.station).state ≠ .mismatched →
        e.missed = (s.su.entry f.station).missed) ∧
      ((s.su.entry f.station).state ≠ e.state ∨ ¬ (member (s.su.entry f.station) ↔ member e) →
        t.isPending .peerChange) ∧
      ((s.su.entry f.station).state = e.state → (member (s.su.entry f.station) ↔ member e) →
        t.port.pending &&& Event.peerChange.bit = s.port.pending &&& Event.peerChange.bit) ∧
      (s.su.isolated = true → t.isPending .isolationChange) ∧
      (s.su.isolated = false →
        t.port.pending &&& Event.isolationChange.bit = s.port.pending &&& Event.isolationChange.bit) ∧
      ((s.su.entry f.station).state ≠ .mismatched → e.state = .mismatched →
        t.isPending .fingerprintMismatch) ∧
      t.tb = s.tb ∧ t.held = s.held ∧ s.sameMemory t ∧
      (f.cls ≠ .onset → f.cls ≠ .restore →
        t = { s with su := t.su, line := t.line, port := { s.port with pending := t.port.pending } }))

/-- R36, R37, R38, R43, R50, R111, R112, R133: an ONSET frame of a member peer whose arrival finds a ready
STANDBY station, not onset-barred, with the disarm flag clear and some Q at Q_join or more, opens an episode
with trigger PEER and the cycle, slot and sag flags of the most recent sample event when the band is not
DEPLETED; in band DEPLETED the join is unserved, a record opened and closed at once as UNSERVED with the
disarm flag set, and no change of service state, ONSET frame or trigger. A RESTORE frame of a member sets
the restore notice flag of an injecting station. (The model's choices: between a boundary and the slot-0
sample event the sag flags are the cleared ones, log 30; an unserved join leaves the injected flag, log 32;
and where the RESTORE frame ends the isolation of a station whose own transmit age is L or more, the command
in force stays until the next sample event, log 39, since R110 has the commands 0 from that arrival.) -/
def Obligations.PeerNoticesAreTaken : Prop :=
  ∀ (s : State) (bits : List Bool) (f : Frame),
    s.held = .released → s.hears bits f → f.station ≠ s.own → s.su.peers.length = 8 →
    s.port.committed = true → f.payload[0]? = some s.port.fingerprint →
    (f.payload.getD 1 0).toNat % 16 = 2 ∨ (f.payload.getD 1 0).toNat % 16 = 3 →
    (f.cls = .onset → s.ctl.service = .standby → s.ready = true →
      s.su.ownAge < s.port.params.l ∨ s.nExp = 1 → s.det.disarm = false → s.en.band = .depleted →
      (∃ p, s.det.qJoin ≤ s.det.q.get p) →
      ∃ t r, exec (.shareFrameReceived bits) s = .next t ∧
        t = { s with
          su := t.su, line := t.line, ep := t.ep, det := { s.det with disarm := true }
          port := { s.port with pending := t.port.pending } } ∧
        t.line.queue = s.line.queue ∧ t.ep.records.getLast? = some r ∧ t.ep.current = none ∧
        t.ep.next = s.ep.next + 1 ∧ r.number = s.ep.next ∧ r.outcome = .unserved ∧ r.peer = true ∧
        r.energy = 0 ∧ r.stamp = s.tb.cycle ∧ r.slot = s.tb.slot ∧ r.phases = s.det.sag ∧
        t.isPending .episodeOpened ∧ t.isPending .episodeClosed) ∧
    (f.cls = .onset → s.ctl.service = .standby → s.ready = true →
      s.su.ownAge < s.port.params.l ∨ s.nExp = 1 → s.det.disarm = false → s.en.band ≠ .depleted →
      (∃ p, s.det.qJoin ≤ s.det.q.get p) →
      ∃ t r, exec (.shareFrameReceived bits) s = .next t ∧
        t.ctl.service = .injecting ∧ t.ctl.bypass = .opening ∧ t.ctl.timer = 48 ∧ t.ctl.gates = true ∧
        t.ctl.commandOpen = true ∧ t.det.quiet = false ∧ t.tmpl.injected = true ∧
        t.dp.g = .all 256 ∧ t.dp.plan = .all ⟨true, 256⟩ ∧ t.line.queue.onset.isSome = true ∧
        t.ep.records.getLast? = some r ∧ r.number = s.ep.next ∧ r.outcome = .opened ∧
        r.peer = true ∧ r.stamp = s.tb.cycle ∧ r.slot = s.tb.slot ∧ r.phases = s.det.sag ∧
        t.tb = s.tb ∧ s.sameMemory t) ∧
    (f.cls = .restore → s.ctl.service = .injecting →
      ∃ t, exec (.shareFrameReceived bits) s = .next t ∧
        t.det = { s.det with restoreNotice := true } ∧ t.ctl = s.ctl ∧ t.dp = s.dp ∧ t.ep = s.ep ∧
        t.tmpl = s.tmpl ∧ t.tb = s.tb ∧ s.sameMemory t)

/-- R116, R122, R128, R129: the bits on the line are taken one after another. The first dominant bit on an
idle line begins a frame, which is followed bit by bit until a check fails: that adds 1 to REC at that bit,
hands nothing to any other block, and leaves a wait for 7 recessive bits, the seventh of which makes the
line idle for a controller that follows no frame. While the station transmits, the bits are its own and none
is followed. An accepted frame with this station's own number trips the station with DUPLICATE_STATION,
empties the transmit queue and mutes the line, and is not taken into the table. (That the wait counts the
recessive bits after the failed one, and that the bits of an own frame are counted where its transmission
ends, are the model's readings: log 29.) -/
def Obligations.FailedAndDuplicateFrames : Prop :=
  (∀ (s : State) (read bits : List Bool),
    s.held = .released → s.line.dominant ≤ 11 → s.line.heard = some read → bits ≠ [] →
    (read ++ bits).head? = some false →
    let frame := read ++ bits
    let last := frame.length - 1
    last < 28 + 9 * fieldAt frame 7 4 → (∀ k, k < last → ¬ checkFails frame k) →
    ∃ t, exec (.shareFrameReceived bits) s = .next t ∧
      (checkFails frame last →
        t = { s with line := { s.line with
          recErrors := min 65535 (s.line.recErrors + 1), tracking := .lost
          dominant := t.line.dominant, recessive := 0 } }) ∧
      (¬ checkFails frame last → last + 1 < 28 + 9 * fieldAt frame 7 4 →
        t = { s with line := { s.line with
          tracking := .receiving frame, dominant := t.line.dominant, recessive := t.line.recessive } })) ∧
  (∀ (s : State) (bits : List Bool) (f : Frame) (live : Bool), s.line.tracking = .sending f live →
    exec (.shareFrameReceived bits) s = .next s) ∧
  (∀ s : State, s.held = .released → s.line.state ≠ .stuck →
    let counts := fun (t : State) =>
      t = { s with line := { s.line with dominant := 0, recessive := min 11 (s.line.recessive + 1) } }
    (s.line.tracking = .lost → ∃ t, exec (.shareFrameReceived [true]) s = .next t ∧
      (s.line.recessive + 1 < 7 → counts t) ∧
      (7 ≤ s.line.recessive + 1 →
        t = { s with line := { s.line with
          tracking := .idle, dominant := 0, recessive := min 11 (s.line.recessive + 1) } })) ∧
    (s.line.tracking = .idle → ∃ t, exec (.shareFrameReceived [true]) s = .next t ∧ counts t) ∧
    (s.line.dominant < 23 → s.line.tracking = .lost →
      exec (.shareFrameReceived [false]) s = .next { s with line := { s.line with
        dominant := s.line.dominant + 1, recessive := 0 } }) ∧
    (s.line.dominant < 23 → s.line.tracking = .idle →
      exec (.shareFrameReceived [false]) s = .next { s with line := { s.line with
        tracking := .receiving [false], dominant := s.line.dominant + 1, recessive := 0 } })) ∧
  (∀ (s : State) (a b : List Bool), ∃ t, exec (.shareFrameReceived a) s = .next t ∧
    exec (.shareFrameReceived (a ++ b)) s = exec (.shareFrameReceived b) t) ∧
  ∀ (s : State) (bits : List Bool) (f : Frame),
    s.held = .released → s.hears bits f → f.station = s.own →
    s.ctl.service ≠ .lockout → s.ctl.service ≠ .idleOut →
    ∃ t, exec (.shareFrameReceived bits) s = .next t ∧
      t.ctl.service = .lockout ∧ t.line.queue = .empty ∧ t.line.mute = .muted ∧ t.su = s.su ∧
      t.line.tracking = .idle ∧ t.dp.command = .all 0 ∧ t.ctl.charge = false ∧
      (s.fm.first.kind = none → t.fm.first.kind = some .duplicateStation ∧ t.fm.first.phase = none ∧
        t.fm.first.detail = some (f.payload.getD 0 0).toNat ∧
        t.fm.first.service = s.ctl.service) ∧ s.sameMemory t

/-- R115, R116, R117, R119, R120: with the line idle and the controller ACTIVE or WARNED, FRAME_BEGIN begins
the eligible frame that comes first in the order ONSET, RESTORE, DEPART, SHARE, STATUS, with the contents
that stand at that instant, at the length of its class, and asserts the driver enable; nothing else changes.
-/
def Obligations.FrameBeginsWithItsContents : Prop :=
  ∀ (s : State) (before after : List FrameClass) (c : FrameClass),
    s.held = .released → s.line.tracking = .idle →
    (s.line.state = .active ∨ s.line.state = .warned) →
    [FrameClass.onset, .restore, .depart, .share, .status] = before ++ c :: after →
    (∀ d ∈ before, s.line.eligible d = false) → s.line.eligible c = true →
    ∃ t flags payload, exec .frameBegin s = .next t ∧ t.driverEnable = true ∧
      t = { s with line := { s.line with tracking := .sending ⟨c, s.own, payload⟩ true } } ∧
      payload = [s.port.fingerprint, BitVec.ofNat 8 (16 * s.line.seq + s.ctl.service.code),
          BitVec.ofNat 8 (s.en.credit / 256), BitVec.ofNat 8 s.en.credit, flags,
          BitVec.ofNat 8 (s.su.share / 256), BitVec.ofNat 8 s.su.share,
          match s.ep.records.getLast? with
          | some r => BitVec.ofNat 8 r.number.toNat
          | none => 0].take
        (match c with | .onset => 5 | .restore => 5 | .depart => 2 | .share => 8 | .status => 4) ∧
      flags.getLsbD 0 = s.det.published.a ∧ flags.getLsbD 1 = s.det.published.b ∧
      flags.getLsbD 2 = s.det.published.c ∧
      flags.getLsbD 3 = (s.dp.published.saturation || s.dp.published.headroom) ∧
      flags.getLsbD 4 = s.su.isolated ∧ flags.toNat / 32 % 4 = s.en.band.code ∧
      flags.getLsbD 7 = decide (1 ≤ s.det.restoreCount)

/-- R115, R116, R123, R127: a station that sends recessive and reads dominant in the arbitration field
releases the driver enable and follows the frame as a receiver with the bits it has read back, which its run
counts take, with TEC and the bit-error counts unchanged; LINE_IDLE makes the line idle for a controller
that follows no frame and is not STUCK, and changes nothing for any other, which ignores runs of recessive
bits. (That the bits sent are counted where the transmission ends, and the run counts that LINE_IDLE leaves,
0 dominant and at least 7 recessive, are the model's choice: log 29; so is that the command changes nothing
where no rule gives it an effect: log 6.) -/
def Obligations.ArbitrationIsLostWithoutError : Prop :=
  (∀ (s : State) (f : Frame) (live : Bool) (k : Nat),
    s.held = .released → s.line.tracking = .sending f live → 1 ≤ k → k ≤ 6 →
    f.bits[k]? = some true →
    let back := f.bits.take k ++ [false]
    ∃ t, exec (.lostArbitration k) s = .next t ∧ s.driverEnable = true ∧ t.driverEnable = false ∧
      t = { s with line := { s.line with
        tracking := .receiving back, recessive := 0
        dominant := back.foldl (fun n b => if b then 0 else min 24 (n + 1)) s.line.dominant } }) ∧
  (∀ s : State, s.held = .released → s.line.state ≠ .stuck → s.line.tracking = .lost →
    exec .lineIdle s = .next { s with line := { s.line with
      tracking := .idle, dominant := 0, recessive := max 7 s.line.recessive } }) ∧
  ∀ s : State, s.held = .released → s.line.state = .stuck ∨ s.line.tracking ≠ .lost →
    exec .lineIdle s = .next s

/-- R115, R116, R124, R126, R128: a bit error at any bit but a recessive arbitration bit stops the
transmission and releases the driver enable, adds 8 to TEC up to 255 and 1 to the frame's bit-error count,
drops the frame at its fourth, and sets the line state from TEC, with LINE_STATE on a change and the silent
timer at 100 on entering SILENT. At the start bit no frame is followed then; at any other the frame on the
line is, with the bits read back, unless a check fails at the bit in error, which fails the frame at once
and adds 1 to REC. (That the wait for 7 recessive bits begins anew there, and the failure at that very bit,
are the model's readings: log 25, log 29.) -/
def Obligations.BitErrorIsCounted : Prop :=
  let back := fun (f : Frame) (k : Nat) => f.bits.take k ++ [!f.bits.getD k true]
  ∀ (s : State) (f : Frame) (p : Pending) (k : Nat),
    s.held = .released → s.line.tracking = .sending f true → s.line.queue.get f.cls = some p →
    k < f.bits.length → ¬ (1 ≤ k ∧ k ≤ 6 ∧ f.bits[k]? = some true) →
    (s.line.state = .active ∨ s.line.state = .warned) →
    ∃ t, exec (.transmitBitError k) s = .next t ∧
      t = { s with line := t.line, port := { s.port with pending := t.port.pending } } ∧
      s.driverEnable = true ∧ t.driverEnable = false ∧
      (k = 0 → t.line.tracking = .lost ∧ t.line.recessive = 0 ∧ t.line.recErrors = s.line.recErrors) ∧
      (1 ≤ k → 2 ≤ f.payload.length → f.payload.length ≤ 8 →
        (¬ checkFails (back f k) k → t.line.tracking = .receiving (back f k) ∧
          t.line.recErrors = s.line.recErrors) ∧
        (checkFails (back f k) k → t.line.tracking = .lost ∧ t.line.recessive = 0 ∧
          t.line.recErrors = min 65535 (s.line.recErrors + 1))) ∧
      t.line.tec = min 255 (s.line.tec + 8) ∧ t.line.seq = s.line.seq ∧
      t.line.throttle = s.line.throttle ∧
      (4 ≤ p.errors + 1 → t.line.queue.get f.cls = none ∧
        t.line.dropped = min 65535 (s.line.dropped + 1)) ∧
      (p.errors + 1 < 4 → t.line.queue.get f.cls = some { p with errors := p.errors + 1 } ∧
        t.line.dropped = s.line.dropped) ∧
      (∀ d, d ≠ f.cls → t.line.queue.get d = s.line.queue.get d) ∧
      t.line.state = (if 128 ≤ t.line.tec then .silent
        else if s.line.state = .active then (if 96 ≤ t.line.tec then .warned else .active)
        else if t.line.tec < 96 then .active else .warned) ∧
      (t.line.state ≠ s.line.state → t.isPending .lineState) ∧
      (t.line.state = .silent → t.line.silentTimer = 100)

/-- R106, R115, R121, R125, R127: a completed frame leaves the queue, TEC falls by 1 but not below 0, the
sequence counter advances modulo 16, a STATUS or SHARE frame reloads the throttle with P_s, and the own
transmit age returns to 0; the line state follows TEC, the driver enable is released, the line is idle and
nothing goes to the station's own table. The run counts have taken the frame's bits: no dominant one, and
the recessive ones of its tail (counted at the completion: log 29). -/
def Obligations.CompletedFrameLeavesTheQueue : Prop :=
  ∀ (s : State) (f : Frame),
    s.held = .released → s.line.tracking = .sending f true →
    (s.line.state = .active ∨ s.line.state = .warned) →
    ∃ t, exec .frameComplete s = .next t ∧
      t = { s with line := t.line, su := { s.su with ownAge := 0 }
                   port := { s.port with pending := t.port.pending } } ∧
      t.line.queue.get f.cls = none ∧
      (∀ d, d ≠ f.cls → t.line.queue.get d = s.line.queue.get d) ∧
      t.line.tec = s.line.tec - 1 ∧ t.line.seq = (s.line.seq + 1) % 16 ∧
      t.line.throttle = (if f.cls = .status ∨ f.cls = .share then s.port.params.ps
        else s.line.throttle) ∧
      t.line.tracking = .idle ∧ t.line.dropped = s.line.dropped ∧ t.line.recErrors = s.line.recErrors ∧
      s.driverEnable = true ∧ t.driverEnable = false ∧
      t.line.dominant = 0 ∧ 8 ≤ t.line.recessive ∧ t.line.recessive ≤ 11 ∧
      t.line.state = (if 128 ≤ t.line.tec then .silent
        else if s.line.state = .active then (if 96 ≤ t.line.tec then .warned else .active)
        else if t.line.tec < 96 then .active else .warned) ∧
      (t.line.state ≠ s.line.state → t.isPending .lineState)

/-- R127, R143, R148, R150, R153: 24 consecutive dominant bits make the line STUCK and report LINE_STUCK, a
NOTE that changes no service state; an empty first-fault record is filled by it, which makes each channel
armed for FAULT CAPTURING from the cycle in progress (no work of a boundary stands between two commands),
and a filled one stays and counts the report; 11 consecutive recessive bits, from every state with the line
STUCK, return it to the state kept, idle, with the queue, TEC and the sequence counter as they were. A
sampled bit that makes the dominant run 24, or in STUCK the recessive run 11, is that very event; in STUCK
every other bit moves the run counts alone (they are held at their limits: log 29). -/
def Obligations.LineIsStuckAndReturns : Prop :=
  (∀ s : State, s.held = .released → s.line.state ≠ .stuck →
    ∃ t, exec .lineStuck s = .next t ∧
      t = { s with line := t.line, fm := t.fm, cap := t.cap
                   port := { s.port with pending := t.port.pending } } ∧
      t.line = { s.line with
        state := .stuck, back := s.line.state, tracking := .lost, dominant := 24, recessive := 0 } ∧
      t.isPending .lineState ∧
      (s.fm.first.kind = none → t.fm.first.kind = some .lineStuck ∧
        t.fm.first.service = s.ctl.service ∧ t.fm.first.phase = none ∧ t.fm.first.detail = none ∧
        t.isPending .fault ∧ (s.inst.work = none → s.triggers t .fault s.tb.counter false)) ∧
      (s.fm.first.kind ≠ none → t.cap = s.cap ∧ t.fm.first = { s.fm.first with
        later := min 255 (s.fm.first.later + 1) })) ∧
  (∀ s : State, s.held = .released → s.line.state = .stuck →
    exec .stuckEnd s = .next { s with
      line := { s.line with
        state := s.line.back, tracking := .idle, dominant := 0, recessive := 11 }
      port := { s.port with pending := s.port.pending ||| 0x0080#16 } }) ∧
  ∀ s : State, s.held = .released → (∀ f live, s.line.tracking ≠ .sending f live) →
    (s.line.state ≠ .stuck → s.line.dominant = 23 →
      exec (.shareFrameReceived [false]) s = exec .lineStuck s) ∧
    (s.line.state = .stuck →
      (s.line.recessive = 10 → exec (.shareFrameReceived [true]) s = exec .stuckEnd s) ∧
      (s.line.recessive < 10 → exec (.shareFrameReceived [true]) s = .next { s with line := { s.line with
        dominant := 0, recessive := s.line.recessive + 1 } }) ∧
      (s.line.dominant ≤ 24 → exec (.shareFrameReceived [false]) s = .next { s with line := { s.line with
        dominant := min 24 (s.line.dominant + 1), recessive := 0 } }))

/-! ## The service port -/

/-- R139, R145, R154, R159, R160, R162, R163: the writes of EVENTS, EVENT_ENABLE, EPISODE_SELECT,
FIRST_FAULT, CAPTURE_SELECT and the staging area take the values written and change nothing else but the
transaction's result and the bytes it returned: EVENTS clears the bits written 1 and starts the release gap
when that clears one; CAPTURE_SELECT is refused outside its ranges; the staging area is written in START
only. -/
def Obligations.RegisterWritesTakeTheirValues : Prop :=
  ∀ s : State, s.held = .released →
    (∀ v, exec (.eventsWrite v) s = .next { s with port := s.portAfter { s.port with
      pending := s.port.pending &&& ~~~v
      gap := s.port.gap || decide (s.port.pending &&& v ≠ 0) } .ok [0, 0] }) ∧
    (∀ v, exec (.eventEnableWrite v) s
      = .next { s with port := s.portAfter { s.port with enable := v } .ok [0, 0] }) ∧
    (∀ v, exec (.episodeSelectWrite v) s = .next { s with
      ep := { s.ep with selection := v }, port := s.portAfter s.port .ok [0, 0] }) ∧
    (∀ v, exec (.firstFaultClear v) s = .next { s with
      fm := { s.fm with first := ⟨none, .start, 0, 0, none, none, 0⟩ }
      port := s.portAfter s.port .ok [0] }) ∧
    (∀ (block spare : Byte) (offset : BitVec 16), block.toNat ≤ 39 → spare = 0 → offset.toNat ≤ 383 →
      exec (.captureSelectWrite block spare offset) s = .next { s with
        cap := { s.cap with block := block.toNat, offset := offset.toNat }
        port := s.portAfter s.port .ok [0, 0, 0, 0] }) ∧
    (∀ (block spare : Byte) (offset : BitVec 16),
      39 < block.toNat ∨ spare ≠ 0 ∨ 383 < offset.toNat →
      exec (.captureSelectWrite block spare offset) s
        = .next { s with port := s.portAfter s.port .badArgument [0, 0, 0, 0] }) ∧
    (∀ (high : Bool) (data : List Byte), s.ctl.service = .start → s.port.staging.length = 64 →
      data.length ≤ 32 → ∃ area, area.length = 64 ∧
        (∀ k, k < 64 → area.getD k 0 =
          if (if high then 32 else 0) ≤ k ∧ k < (if high then 32 else 0) + data.length
          then data.getD (k - if high then 32 else 0) 0 else s.port.staging.getD k 0) ∧
        exec (.paramStageWrite high data) s = .next { s with
          port := s.portAfter { s.port with staging := area } .ok
            (List.replicate data.length 0) }) ∧
    (∀ (high : Bool) (data : List Byte), s.ctl.service ≠ .start →
      exec (.paramStageWrite high data) s = .next { s with
        port := s.portAfter s.port .refusedState (List.replicate data.length 0) })

/-- R7, R32, R46, R77, R82, R151, R158, R161: a PARAM_COMMIT in START whose byte is the CRC of staging bytes
0 to 57 and whose fields are all valid takes the block: the store, every parameter at its offset (Table
12-3.1), the fingerprint, the thresholds, the full credit, the trip level and the scrub flag follow from it,
the start window stops and the service state becomes SYNCING. A CRC that differs, a field that fails, or
another service state refuses it with nothing taken. -/
def Obligations.CommitTakesTheBlock : Prop :=
  ∀ (s : State) (crc : Byte), s.held = .released →
    (s.ctl.service = .start → crc8 (s.port.staging.take 58) = crc →
      failedField (s.port.staging.take 58) = none →
      ∃ t, exec (.paramCommit crc) s = .next t ∧
        (let b := fun k => (s.port.staging.getD k 0).toNat
         let w := fun k => 256 * b k + b (k + 1)
         s.port.staging.length = 64 →
         t = { s with
          tb := { s.tb with armed := false, lastCrossing := none }
          det := { s.det with
            qOn := 8 * w 1 ^ 2, qOff := 8 * w 3 ^ 2, qJoin := 2 * w 1 ^ 2 }
          dp := { s.dp with tripLevel := w 18 }
          en := { s.en with
            full := (w 22 ^ 2 - w 20 ^ 2) / 256, chgEn := decide (s.tb.vdc < w 22) }
          ctl := { s.ctl with service := .syncing, charge := true }
          fm := { s.fm with scrub := true }
          port := s.portAfter { s.port with
            store := s.port.staging.take 58, storeErrors := [], params := t.port.params
            fingerprint := crc, committed := true, failedOffset := 0xFF#8, window := false } .ok [0] } ∧
         t.port.params = {
          frequency := b 0, dOn := w 1, dOff := w 3, h := b 5, c := b 6, tol := b 7, coastLimit := w 8
          mc := w 10, mm := w 12, kh := w 14, iLim := w 16, iTrip := w 18, vmin := w 20, vfull := w 22
          vover := w 24, bFull := b 26, bMin := b 27, bShift := b 28, wr := w 29, l := b 31, ps := b 32
          envelope := (List.range (b 33)).map fun j => (w (34 + 4 * j), w (36 + 4 * j)) })) ∧
    (s.ctl.service = .start → crc8 (s.port.staging.take 58) ≠ crc →
      exec (.paramCommit crc) s = .next { s with
        port := s.portAfter { s.port with failedOffset := 0xFF#8 } .crcMismatch [0] }) ∧
    (∀ k, s.ctl.service = .start → crc8 (s.port.staging.take 58) = crc →
      failedField (s.port.staging.take 58) = some k →
      exec (.paramCommit crc) s = .next { s with
        port := s.portAfter { s.port with failedOffset := BitVec.ofNat 8 k } .badParameter [0] }) ∧
    (s.ctl.service ≠ .start → exec (.paramCommit crc) s
      = .next { s with port := s.portAfter s.port .refusedState [0] })

/-- R161 and Table 12-3.1: a block of 58 bytes passes the validation exactly when every field lies in the
table's range and the counted segments ascend to a last end cycle of 65535. -/
def Obligations.ValidationIsTheTable : Prop :=
  ∀ block : List Byte, block.length = 58 →
    let b := fun k => (block.getD k 0).toNat
    let w := fun k => 256 * b k + b (k + 1)
    (failedField block = none ↔
      b 0 ≤ 1 ∧ 256 ≤ w 1 ∧ w 1 ≤ 8192 ∧ 128 ≤ w 3 ∧ w 3 ≤ w 1 ∧ 1 ≤ b 5 ∧ b 5 ≤ 20 ∧
      2 ≤ b 6 ∧ b 6 ≤ 7 ∧ 5 ≤ b 7 ∧ b 7 ≤ 50 ∧ 10 ≤ w 8 ∧ w 8 ≤ 500 ∧
      1024 ≤ w 10 ∧ w 10 ≤ 16384 ∧ 256 ≤ w 12 ∧ w 12 ≤ 16384 ∧ 256 ≤ w 14 ∧ w 14 ≤ 8192 ∧
      100 ≤ w 16 ∧ w 16 ≤ 32000 ∧ w 16 < w 18 ∧ w 18 ≤ 32767 ∧ w 20 ≤ 4094 ∧
      w 20 < w 22 ∧ w 22 ≤ 4095 ∧ 1024 ≤ (w 22 ^ 2 - w 20 ^ 2) / 256 ∧
      w 22 ≤ w 24 ∧ w 24 ≤ 4095 ∧ 1 ≤ b 26 ∧ b 27 ≤ b 26 ∧ b 28 ≤ 64 ∧ w 29 ≤ 3000 ∧
      5 ≤ b 31 ∧ b 31 ≤ 50 ∧ 1 ≤ b 32 ∧ b 32 ≤ b 31 / 3 ∧ 1 ≤ b 33 ∧ b 33 ≤ 6 ∧
      w (34 + 4 * (b 33 - 1)) = 65535 ∧ 0 < w 34 ∧
      (∀ j, j + 1 < b 33 → w (34 + 4 * j) < w (34 + 4 * (j + 1))) ∧
      ∀ j, j < b 33 → w (36 + 4 * j) ≤ 256)

/-- R142: an ARM action makes its five tests in order and, when all pass, arms the channel with its kind,
count and region, the write block at the first block, no status and no pending disarm; a refused ARM changes
nothing in the channel. -/
def Obligations.ArmMakesItsTests : Prop :=
  ∀ (s : State) (one : Bool) (kind : Byte) (count : BitVec 16) (first last : Byte), s.held = .released →
    let other := s.cap.channel (!one)
    let result :=
      if (s.cap.channel one).state = .capturing then Result.busy
      else if kind.toNat < 1 ∨ 6 < kind.toNat then .badArgument
      else if count.toNat < 1 ∨ 40 < count.toNat then .badArgument
      else if 39 < first.toNat ∨ 39 < last.toNat ∨ last.toNat < first.toNat then .badArgument
      else if other.state ≠ .idle ∧ first.toNat ≤ other.last ∧ other.first ≤ last.toNat then
        .badArgument
      else .ok
    other.first ≤ other.last →
    ∃ t, exec (.arm one kind count first last) s = .next t ∧
      t = { s with cap := t.cap, port := s.portAfter s.port result [0, 0, 0, 0, 0, 0] } ∧
      (result ≠ .ok → t.cap = s.cap) ∧
      (result = .ok → t.cap.channel one = { s.cap.channel one with
          state := .armed, kind := (t.cap.channel one).kind, count := count.toNat
          first := first.toNat, last := last.toNat, write := first.toNat, status := .none
          disarm := false } ∧
        (t.cap.channel one).kind.code = kind.toNat ∧
        t.cap.channel (!one) = s.cap.channel (!one) ∧ t.cap.memory = s.cap.memory ∧
        t.cap.copies = s.cap.copies)

/-- R143, R146: a SOFT action starts the channel only when it is ARMED for SOFT, with the next cycle to
reach its boundary as its trigger cycle; a DISARM action leaves an IDLE channel, ends an ARMED one and a
CAPTURING one without a copy as ABORTED, and waits for a copy in progress. Both give OK. -/
def Obligations.SoftAndDisarm : Prop :=
  ∀ (s : State) (one : Bool), s.held = .released → s.inst.work = none →
    (∃ t, exec (.soft one) s = .next t ∧
      t = { s with cap := t.cap, port := s.portAfter s.port .ok [0, 0, 0, 0, 0, 0] } ∧
      ((s.cap.channel one).state = .armed → (s.cap.channel one).kind = .soft →
        t.cap.channel one = { s.cap.channel one with state := .capturing, cycle := s.tb.counter }) ∧
      ((s.cap.channel one).state ≠ .armed ∨ (s.cap.channel one).kind ≠ .soft → t.cap = s.cap) ∧
      t.cap.channel (!one) = s.cap.channel (!one) ∧ s.sameMemory t) ∧
    ∃ t, exec (.disarm one) s = .next t ∧
      t = { s with cap := t.cap, port := t.port } ∧ t.port.result = .ok ∧
      t.cap.channel (!one) = s.cap.channel (!one) ∧ t.cap.copies = s.cap.copies ∧ s.sameMemory t ∧
      ((s.cap.channel one).state = .idle → t.cap = s.cap ∧ t.port.pending = s.port.pending) ∧
      ((s.cap.channel one).state = .armed ∨
          ((s.cap.channel one).state = .capturing ∧ one ∉ s.cap.copies) →
        t.cap.channel one = { s.cap.channel one with
          state := .idle, status := .aborted, disarm := false } ∧
        t.isPending (if one then .capture1End else .capture0End)) ∧
      ((s.cap.channel one).state = .capturing → one ∈ s.cap.copies →
        t.cap.channel one = { s.cap.channel one with disarm := true } ∧
        t.port.pending = s.port.pending)

/-- R49, R59, R60, R62, R120, R122: WITHDRAW makes a SYNCING or STANDBY station WITHDRAWN with a DEPART
frame queued, answers BUSY in INJECTING and REFUSED_STATE otherwise; RETURN makes a WITHDRAWN station
SYNCING with any pending DEPART frame removed and answers REFUSED_STATE otherwise. The charger permission
stays granted. -/
def Obligations.WithdrawAndReturn : Prop :=
  ∀ s : State, s.held = .released →
    (s.ctl.service = .syncing ∨ s.ctl.service = .standby →
      ∃ t, exec .withdraw s = .next t ∧
        t = { s with
          ctl := { s.ctl with service := .withdrawn, charge := true }
          en := { s.en with chgEn := decide (s.tb.vdc < s.port.params.vfull) }
          line := { s.line with queue := { s.line.queue with depart := t.line.queue.depart } }
          port := s.portAfter s.port .ok [0] } ∧ t.line.queue.depart.isSome = true) ∧
    (s.ctl.service = .injecting → exec .withdraw s
      = .next { s with port := s.portAfter s.port .busy [0] }) ∧
    (s.ctl.service = .start ∨ s.ctl.service = .idleOut ∨ s.ctl.service = .withdrawn ∨
        s.ctl.service = .lockout → exec .withdraw s
      = .next { s with port := s.portAfter s.port .refusedState [0] }) ∧
    (s.ctl.service = .withdrawn →
      ∃ t, exec .returnToService s = .next t ∧
        t = { s with
          ctl := { s.ctl with service := .syncing, charge := true }
          en := { s.en with chgEn := decide (s.tb.vdc < s.port.params.vfull) }
          line := { s.line with
            queue := { s.line.queue with depart := none }, tracking := t.line.tracking }
          port := s.portAfter s.port .ok [0] }) ∧
    (s.ctl.service ≠ .withdrawn → exec .returnToService s
      = .next { s with port := s.portAfter s.port .refusedState [0] })

/-- R139, R145, R159 and Tables 9-2.1 and 9-2.2: a read of EPISODE returns the first bytes of the record
that the selection resolves to (the newest for 0xFFFF), laid out as the table gives it, or zeros with
NOT_HELD; a read of CAPTURE_DATA returns the words from the selected block and word on, running on past word
383 and past block 39, and advances the selection (past word 383 the selected block too, the model's choice:
log 36), or answers BUSY with zeros when the block being written is among them. Neither changes anything
else. -/
def Obligations.RecordAndCaptureReads : Prop :=
  [EpisodeOutcome.opened, .ridden, .energy, .line, .lock, .template, .abortedFault, .abortedReset,
    .unserved].map EpisodeOutcome.code = [0, 1, 2, 3, 4, 5, 6, 7, 8] ∧
  ∀ s : State, s.held = .released →
    let lo := fun (v : Nat) => BitVec.ofNat 8 v
    let hi := fun (v : Nat) => BitVec.ofNat 8 (v / 256)
    let one := fun (v : Bool) => if v then 1 else 0
    (∀ (n : Nat) (r : Record), 1 ≤ n → n ≤ 32 →
      let used := if r.outcome = .opened then s.energyUsed else r.energy
      let elapsed := if r.hasElapsed then r.elapsed else 0
      let image : List Byte := [
        hi r.number.toNat, lo r.number.toNat, lo r.outcome.code,
        lo (one r.hasElapsed + 2 * one r.hasFault + 4 * one r.hasClamps),
        lo (r.stamp.toNat / 16777216), lo (r.stamp.toNat / 65536), hi r.stamp.toNat, lo r.stamp.toNat,
        lo r.slot, lo (one r.phases.a + 2 * one r.phases.b + 4 * one r.phases.c + 128 * one r.peer),
        lo r.depth, lo r.minMembers, hi r.duration, lo r.duration, hi r.full, lo r.full, hi r.envelope,
        lo r.envelope, hi used, lo used, hi r.peakShare, lo r.peakShare, lo r.retained.a, lo r.retained.b,
        lo r.retained.c, lo r.disagreements, hi elapsed, lo elapsed,
        match r.fault with | some k => lo k.code | none => 0,
        lo r.clamps.cabinet, lo r.clamps.module, lo r.clamps.foldBack]
      (s.ep.selection = 0xFFFF#16 ∧ s.ep.records.getLast? = some r) ∨
        (s.ep.selection ≠ 0xFFFF#16 ∧
          s.ep.records.find? (fun q => decide (q.number = s.ep.selection)) = some r) →
      exec (.episodeRead n) s = .next { s with
        port := s.portAfter s.port .ok (image.take n) }) ∧
    (∀ n, 1 ≤ n → n ≤ 32 →
      (s.ep.selection = 0xFFFF#16 ∧ s.ep.records = []) ∨
        (s.ep.selection ≠ 0xFFFF#16 ∧ ∀ q ∈ s.ep.records, q.number ≠ s.ep.selection) →
      exec (.episodeRead n) s = .next { s with
        port := s.portAfter s.port .notHeld (List.replicate n 0) }) ∧
    (∀ n, 1 ≤ n → n ≤ 16 → s.cap.block < 40 → s.cap.offset < 384 → s.cap.copies = [] →
      exec (.captureDataRead (2 * n)) s = .next { s with
        cap := { s.cap with
          block := (384 * s.cap.block + s.cap.offset + n) % 15360 / 384
          offset := (384 * s.cap.block + s.cap.offset + n) % 384 }
        port := s.portAfter s.port .ok ((List.range n).flatMap fun j =>
                  [s.cap.memory.read (2 * ((384 * s.cap.block + s.cap.offset + j) % 15360)),
                   s.cap.memory.read (2 * ((384 * s.cap.block + s.cap.offset + j) % 15360) + 1)]) }) ∧
    (∀ n one rest, 1 ≤ n → n ≤ 16 → s.cap.copies = one :: rest →
      (∃ j, j < n ∧
        (384 * s.cap.block + s.cap.offset + j) % 15360 / 384 = (s.cap.channel one).write) →
      exec (.captureDataRead (2 * n)) s = .next { s with
        port := s.portAfter s.port .busy (List.replicate (2 * n) 0) })

/-- R159 and Tables 11-4.1, 12-2.4 and 12-2.5: a read transaction of STATUS, of a peer entry, of
FIRST_FAULT, EVENTS, EVENT_ENABLE, EPISODE_SELECT, of the staging area, of CAPTURE_CONTROL0 or 1 or of
CAPTURE_SELECT ends with OK and returns the first bytes declared of the item's image, and 0 in the data
bytes clocked beyond them; it changes nothing but the result and the bytes returned. -/
def Obligations.ReadsReturnTheirImages : Prop :=
  [ServiceState.start, .syncing, .standby, .injecting, .withdrawn, .lockout, .idleOut].map
    ServiceState.code = [0, 1, 2, 3, 4, 5, 6] ∧
  [LockState.search, .locked, .coast].map LockState.code = [0, 1, 2] ∧
  [TemplateState.empty, .filling, .valid].map TemplateState.code = [0, 1, 2] ∧
  [Band.none, .full, .envelope, .depleted].map Band.code = [0, 1, 2, 3] ∧
  [BypassState.closed, .opening, .opened, .closing].map BypassState.code = [0, 1, 2, 3] ∧
  [LineState.active, .warned, .silent, .stuck].map LineState.code = [0, 1, 2, 3] ∧
  [EntryState.absent, .present, .lost, .departed, .mismatched, .self].map EntryState.code
    = [0, 1, 2, 3, 4, 5] ∧
  [FaultKind.overcurrentTrip, .bypassOpenFail, .bypassCloseFail, .bypassUncommanded, .duplicateStation,
    .parameterEcc, .templateEcc, .dcOvervoltage, .lineStuck].map FaultKind.code
    = [1, 2, 3, 4, 5, 6, 7, 8, 9] ∧
  [ChannelState.idle, .armed, .capturing].map ChannelState.code = [0, 1, 2] ∧
  [CaptureStatus.none, .complete, .regionFull, .aborted].map CaptureStatus.code = [0, 1, 2, 3] ∧
  [TriggerKind.none, .onset, .restore, .peerLoss, .lockLoss, .fault, .soft].map TriggerKind.code
    = [0, 1, 2, 3, 4, 5, 6] ∧
  ∀ (s : State) (n : Nat) (data : List Byte), s.held = .released → 1 ≤ n → n ≤ data.length →
    let lo := fun (v : Nat) => BitVec.ofNat 8 v
    let hi := fun (v : Nat) => BitVec.ofNat 8 (v / 256)
    let one := fun (v : Bool) => if v then 1 else 0
    let status : List Byte := [
      lo s.ctl.service.code, lo s.tb.lock.code, lo (16 * s.templateState.code + s.tmpl.ring.length),
      lo (16 * s.en.band.code + s.ctl.bypass.code), hi s.su.share, lo s.su.share, lo s.su.count,
      lo (one s.su.isolated + 2 * one (decide (s.nExp = 1)) + 4 * one s.port.committed
        + 16 * s.line.state.code),
      s.port.failedOffset, lo s.line.tec, hi s.line.recErrors, lo s.line.recErrors, hi s.line.dropped,
      lo s.line.dropped, hi s.en.credit, lo s.en.credit, hi s.en.phi, lo s.en.phi,
      lo (s.tb.counter.toNat / 16777216), lo (s.tb.counter.toNat / 65536), hi s.tb.counter.toNat,
      lo s.tb.counter.toNat, hi s.ep.next.toNat, lo s.ep.next.toNat, hi s.ep.overwrites,
      lo s.ep.overwrites, lo (s.port.station.toNat + 8 * s.port.countStrap.toNat), hi s.fm.corrected,
      lo s.fm.corrected, lo s.su.ownAge, lo s.det.restoreCount, s.port.fingerprint]
    let read := fun (item : Byte) => exec (.registerWriteOther item (BitVec.ofNat 8 (127 + n)) data) s
    let gives := fun (image : List Byte) => (.next { s with
      port := s.portAfter s.port .ok (image.take n ++ List.replicate (data.length - n) 0) } :
        Host.Outcome State Fault Refusal)
    (n ≤ 32 → read 0x01 = gives status) ∧
    (∀ k, n ≤ 16 → k < 8 →
      let e := s.su.entry k
      let image : List Byte := [
        lo e.state.code, lo (one e.fpMatch), lo e.reported.code,
        match e.seq with | some q => lo q | none => 0xFF#8,
        hi e.credit, lo e.credit, e.flags, hi e.share, lo e.share, e.episode, lo e.missed, lo e.age,
        lo (one e.refreshed.credit + 2 * one e.refreshed.flags + 4 * one e.refreshed.share
          + 8 * one e.refreshed.episode), 0, 0, 0]
      read (BitVec.ofNat 8 (8 + k)) = gives image) ∧
    (n ≤ 2 →
      let two := fun (v : BitVec 16) => [hi v.toNat, lo v.toNat]
      read 0x02 = gives (two s.port.pending) ∧ read 0x03 = gives (two s.port.enable) ∧
      read 0x10 = gives (two s.ep.selection)) ∧
    (n ≤ 32 → read 0x18 = gives s.port.staging ∧ read 0x19 = gives (s.port.staging.drop 32)) ∧
    (n ≤ 12 →
      let f := s.fm.first
      let image : List Byte := [
        match f.kind with | some k => lo k.code | none => 0,
        lo f.service.code, lo (f.cycle.toNat / 16777216), lo (f.cycle.toNat / 65536), hi f.cycle.toNat,
        lo f.cycle.toNat, lo f.slot,
        match f.phase with | some .a => 0 | some .b => 1 | some .c => 2 | none => 0xFF#8,
        hi (f.detail.getD 0), lo (f.detail.getD 0), lo (one f.detail.isSome), lo f.later]
      read 0x04 = gives image) ∧
    (n ≤ 8 → ∀ k : Bool,
      let c := s.cap.channel k
      let image : List Byte := [
        lo c.state.code, lo c.status.code, lo c.kind.code, lo c.count, lo c.first, lo c.last, lo c.write,
        lo c.cycle.toNat]
      read (if k then 0x21 else 0x20) = gives image) ∧
    (n ≤ 4 → read 0x22 = gives [lo s.cap.block, 0, hi s.cap.offset, lo s.cap.offset])

/-- R159: a transaction whose chip select rises before byte 1 or before the last byte of the declared length
is complete ends with FRAME_ERROR and SERVICE_FRAME_ERROR and has no other effect; a complete one of an item
that Table 12-2.3 does not list ends with NO_ITEM, and one with bit 6 or bit 5 set, or with a direction or
length the table does not allow its item, with BAD_ARGUMENT: nothing is written and every data byte returned
is 0. (The two lists below are the table: each item with the least and the greatest length of its reads, and
of its writes.) -/
def Obligations.RefusedTransactions : Prop :=
  let reads : List (Nat × Nat × Nat) := [
    (0x01, 1, 32), (0x02, 1, 2), (0x03, 1, 2), (0x04, 1, 12), (0x08, 1, 16), (0x09, 1, 16), (0x0A, 1, 16),
    (0x0B, 1, 16), (0x0C, 1, 16), (0x0D, 1, 16), (0x0E, 1, 16), (0x0F, 1, 16), (0x10, 1, 2), (0x11, 1, 32),
    (0x18, 1, 32), (0x19, 1, 32), (0x20, 1, 8), (0x21, 1, 8), (0x22, 1, 4), (0x23, 2, 32)]
  let writes : List (Nat × Nat × Nat) := [
    (0x02, 2, 2), (0x03, 2, 2), (0x04, 1, 1), (0x10, 2, 2), (0x18, 1, 32), (0x19, 1, 32), (0x1A, 1, 1),
    (0x20, 6, 6), (0x21, 6, 6), (0x22, 4, 4), (0x30, 1, 1)]
  let allows := fun (table : List (Nat × Nat × Nat)) (item n : Nat) =>
    ∃ low high, (item, low, high) ∈ table ∧ low ≤ n ∧ n ≤ high
  let known := fun (item : Nat) => ∃ low high, (item, low, high) ∈ reads ++ writes
  ∀ s : State, s.held = .released →
    (∀ bytes : List Byte,
      bytes.length < 2 ∨ bytes.length < 3 + (bytes.getD 1 0).toNat % 32 →
      ∃ t, exec (.frameError bytes) s = .next t ∧
        t = { s with port := { s.port with
          pending := s.port.pending ||| 0x1000#16, result := .frameError, out := t.port.out } } ∧
        t.port.out.length ≤ bytes.length) ∧
    ∀ (item control : Byte) (data : List Byte), control.toNat % 32 + 1 ≤ data.length →
      (¬ known item.toNat →
        exec (.registerWriteOther item control data) s = .next { s with
          port := s.portAfter s.port .noItem (List.replicate data.length 0) }) ∧
      (known item.toNat →
        control.toNat / 32 % 4 ≠ 0 ∨
          (128 ≤ control.toNat ∧ (¬ allows reads item.toNat (control.toNat % 32 + 1) ∨
            (item = 0x23 ∧ control.toNat % 2 = 0))) ∨
          (control.toNat < 128 ∧ ¬ allows writes item.toNat (control.toNat % 32 + 1)) →
        exec (.registerWriteOther item control data) s = .next { s with
          port := s.portAfter s.port .badArgument (List.replicate data.length 0) })

/-- R159, R164 and Tables 12-2.1 and 12-2.3: each service command is the transaction that its item number,
its control byte and its data bytes spell (each is one whole transaction: log 18). -/
def Obligations.CommandsAreTheirTransactions : Prop :=
  ∀ (s : State) (v : BitVec 16) (b c d e : Byte),
    let hi : Byte := BitVec.ofNat 8 (v.toNat / 256)
    let lo : Byte := BitVec.ofNat 8 v.toNat
    exec (.eventsWrite v) s = exec (.registerWriteOther 0x02 0x01 [hi, lo]) s ∧
    exec (.eventEnableWrite v) s = exec (.registerWriteOther 0x03 0x01 [hi, lo]) s ∧
    exec (.firstFaultClear b) s = exec (.registerWriteOther 0x04 0x00 [b]) s ∧
    exec (.episodeSelectWrite v) s = exec (.registerWriteOther 0x10 0x01 [hi, lo]) s ∧
    exec (.paramCommit b) s = exec (.registerWriteOther 0x1A 0x00 [b]) s ∧
    exec (.arm false b v c d) s = exec (.registerWriteOther 0x20 0x05 [1, b, hi, lo, c, d]) s ∧
    exec (.arm true b v c d) s = exec (.registerWriteOther 0x21 0x05 [1, b, hi, lo, c, d]) s ∧
    exec (.disarm false) s = exec (.registerWriteOther 0x20 0x05 [2, b, c, d, e, lo]) s ∧
    exec (.disarm true) s = exec (.registerWriteOther 0x21 0x05 [2, b, c, d, e, lo]) s ∧
    exec (.soft false) s = exec (.registerWriteOther 0x20 0x05 [3, b, c, d, e, lo]) s ∧
    exec (.soft true) s = exec (.registerWriteOther 0x21 0x05 [3, b, c, d, e, lo]) s ∧
    exec (.captureSelectWrite b c v) s = exec (.registerWriteOther 0x22 0x03 [b, c, hi, lo]) s ∧
    exec .withdraw s = exec (.registerWriteOther 0x30 0x00 [1]) s ∧
    exec .returnToService s = exec (.registerWriteOther 0x30 0x00 [2]) s ∧
    exec .warmReset s = exec (.registerWriteOther 0x30 0x00 [3]) s ∧
    (∀ data : List Byte, 1 ≤ data.length → data.length ≤ 32 →
      exec (.paramStageWrite false data) s
        = exec (.registerWriteOther 0x18 (BitVec.ofNat 8 (data.length - 1)) data) s ∧
      exec (.paramStageWrite true data) s
        = exec (.registerWriteOther 0x19 (BitVec.ofNat 8 (data.length - 1)) data) s) ∧
    (∀ data : List Byte, 1 ≤ data.length → data.length ≤ 32 →
      exec (.episodeRead data.length) s
        = exec (.registerWriteOther 0x11 (BitVec.ofNat 8 (127 + data.length)) data) s ∧
      exec (.captureDataRead data.length) s
        = exec (.registerWriteOther 0x23 (BitVec.ofNat 8 (127 + data.length)) data) s)

/-! ## Rules of the whole part -/

/-- R46, R47, R57, R161: LOCKOUT and IDLE_OUT are left only by a reset, and the committed block, its
fingerprint and what is derived from it change only at a commit in START or at a reset, whatever the
command. -/
def Obligations.LockoutAndTheBlockLastUntilAReset : Prop :=
  ∀ (c : Instr) (s t : State), exec c s = .next t → s.held = .released → t.held = .released →
    (s.ctl.service = .lockout ∨ s.ctl.service = .idleOut → t.ctl.service = s.ctl.service) ∧
    (s.ctl.service ≠ .start → t.port.params = s.port.params ∧ t.port.store = s.port.store ∧
      t.port.fingerprint = s.port.fingerprint ∧ t.port.committed = s.port.committed ∧
      t.det.qOn = s.det.qOn ∧ t.det.qOff = s.det.qOff ∧ t.det.qJoin = s.det.qJoin ∧
      t.en.full = s.en.full ∧ t.dp.tripLevel = s.dp.tripLevel ∧
      t.port.station = s.port.station ∧ t.port.countStrap = s.port.countStrap)

/-- R162: an event once pending stays pending through every command but a write of EVENTS (as its own
command or as the bytes of a transaction) and a reset. -/
def Obligations.PendingEventsStay : Prop :=
  ∀ (c : Instr) (s t : State), exec c s = .next t → s.held = .released → t.held = .released →
    (∀ v, c ≠ .eventsWrite v) → (∀ control data, c ≠ .registerWriteOther 0x02 control data) →
    (∀ rest, c ≠ .frameError (0x02 :: rest)) →
    s.port.pending &&& t.port.pending = s.port.pending

/-! ## Invariants that every step keeps -/

/-- R53, R55, R61, R63, R65, R66, R132, R135: every step keeps the controller, the open record and the
command in agreement, and a hand-back in progress naming its outcome. -/
def Obligations.StepKeepsTheController : Prop :=
  ∀ s t : State, s.ControllerInv → s.HandbackInv → step s = .next t → t.ControllerInv ∧ t.HandbackInv

/-- R46, R62, R83, R161: every step keeps CHG_EN and the charger permission following the service state and
the link, the states after a commit to committed stations, and the staging area at its 64 bytes. -/
def Obligations.StepKeepsTheCharger : Prop :=
  ∀ s t : State, s.ChargerInv → s.CommitInv → step s = .next t → t.ChargerInv ∧ t.CommitInv

/-- R97, R103, R105, R107, R131, R132, R140: every step keeps the own slot SELF, the share within 0 to 256
and at its fixed value while SOLO or ISOLATED, and the member count at most 8; and every step keeps the ring
at sixteen records or fewer, numbered consecutively modulo 65536 up to the next number, with an open record
among them. -/
def Obligations.StepKeepsTheShareAndTheRing : Prop :=
  ∀ s t : State, step s = .next t → (s.ShareInv → t.ShareInv) ∧ (s.RingInv → t.RingInv)

/-- R116, R122, R125, R126, R127: every step keeps TEC within 0 to 255, the sequence counter within 0 to 15,
a SILENT or STUCK station transmitting nothing, a STUCK one following no frame, a station in LOCKOUT muted
but for a DEPART frame, and the dominant run at 0 on an idle line and while a frame is sent, and within a
frame's own in a frame that is followed (at most 11 bits, so none makes the line STUCK). That the run is 0
while a frame is sent is the model's choice, not R127's: the own bits are counted where the transmission
ends (log 29). -/
def Obligations.StepKeepsTheLine : Prop :=
  ∀ s t : State, s.LineInv → step s = .next t → t.LineInv

/-- R73, R80, R141, R142, R145 and section 10-1: every step keeps the capture memory in its canonical form,
each half of the live buffer one block long, the selection and the channels' regions within the memory, and
every fold-back factor within 64 to 256. -/
def Obligations.StepKeepsTheBuffersAndFactors : Prop :=
  ∀ s t : State, s.CaptureInv → s.FoldBackInv → step s = .next t → t.CaptureInv ∧ t.FoldBackInv

/-- R2, R4, R19, R24, R30, R31, R48, R49: every step keeps the codes in their ranges, the ring at four held
cycles or fewer and empty while lock is SEARCH, a STANDBY station ready, and each Q the sum of its window, 0
while the template is not VALID, and no work of a boundary left between two commands. -/
def Obligations.StepKeepsTheMeasurement : Prop :=
  ∀ s t : State, s.TimebaseInv → s.TemplateInv → s.MetricInv → step s = .next t →
    t.TimebaseInv ∧ t.TemplateInv ∧ t.MetricInv

/-- The machine right after reset meets every invariant that the steps keep. -/
def Obligations.ResetMeetsTheInvariants : Prop :=
  State.reset.ControllerInv ∧ State.reset.HandbackInv ∧ State.reset.ChargerInv ∧
    State.reset.CommitInv ∧ State.reset.ShareInv ∧ State.reset.LineInv ∧ State.reset.RingInv ∧
    State.reset.CaptureInv ∧ State.reset.FoldBackInv ∧ State.reset.TimebaseInv ∧
    State.reset.TemplateInv ∧ State.reset.MetricInv

/-! ## Arithmetic of the datapath and of the timebase -/

/-- R67 to R75: for any plan, codes, share of at most 256 and factor within 64 to 256, the final command of
a phase is no greater in magnitude than the cabinet ceiling, the module ceiling and the headroom limit, is 0
with the gate off, and its duty is at most 1024 either way, of the command's sign or 0; the factor moves by
R73 and stays within 64 to 256, and the fold-back flag is set when it is below 256 (whatever the gate, as
the model reads R69 and R78: log 24). -/
def Obligations.FinalCommandIsBounded : Prop :=
  ∀ (lim : ChainLimits) (iLim share : Nat) (plan : PhasePlan) (g : Nat) (x i t : Int),
    share ≤ 256 → 64 ≤ g → g ≤ 256 →
    let out := chain lim iLim share plan g x i t
    out.command.natAbs ≤ lim.cabinet ∧ out.command.natAbs ≤ lim.module ∧
      out.command.natAbs ≤ lim.headroom ∧
      (plan.gate = false → out.command = 0 ∧ out.flags.cabinet = false ∧
        out.flags.saturation = false ∧ out.flags.headroom = false) ∧
      (dutyOf lim.headroom out.command).natAbs ≤ 1024 ∧
      0 ≤ dutyOf lim.headroom out.command * out.command ∧
      out.g = (if iLim < i.natAbs then max 64 (g - 32)
        else if 8 * i.natAbs ≤ 7 * iLim then min 256 (g + 8) else g) ∧
      64 ≤ out.g ∧ out.g ≤ 256 ∧ (out.flags.foldBack = true ↔ out.g < 256)

/-- R6: a crossing is recognised by an armed recogniser at a code of 0 or above, and its interpolated time
lies between the previous sample's and the crossing sample's, at the latter for a code of 0. -/
def Obligations.CrossingLiesBetweenTheSamples : Prop :=
  ∀ t : Timebase, t.prevCode < 0 →
    (t.armed = true ∧ 0 ≤ t.x.a → ∃ d, t.crossing = some (t.prevTime + BitVec.ofNat 32 d) ∧
      d ≤ (t.time - t.prevTime).toNat ∧
      d * (t.x.a - t.prevCode).toNat ≤ (t.time - t.prevTime).toNat * (-t.prevCode).toNat ∧
      (t.time - t.prevTime).toNat * (-t.prevCode).toNat < (d + 1) * (t.x.a - t.prevCode).toNat ∧
      (t.x.a = 0 → t.prevTime + BitVec.ofNat 32 d = t.time)) ∧
    (t.armed = false ∨ t.x.a < 0 → t.crossing = none)
end

