-- ==== Sys2Proof/Laws/State.lean ====
section
/-! SUPPORT. What each update of one block leaves and writes, field by field, so that no proof unfolds a
record update. -/

namespace Sys2Proof.Machine

@[simp] theorem perPhase_get_all {α : Type} (x : α) (p : Phase) : (PerPhase.all x).get p = x := by
  cases p <;> rfl

@[simp] theorem perPhase_get_map {α β : Type} (f : α → β) (v : PerPhase α) (p : Phase) :
    (v.map f).get p = f (v.get p) := by
  cases p <;> rfl

@[simp] theorem perPhase_get_zip {α β γ : Type} (f : α → β → γ) (u : PerPhase α) (v : PerPhase β)
    (p : Phase) : (u.zip f v).get p = f (u.get p) (v.get p) := by
  cases p <;> rfl

@[simp] theorem State.modTb_held (s : State) (f : Timebase → Timebase) : (s.modTb f).held = s.held := rfl
@[simp] theorem State.modTb_tb (s : State) (f : Timebase → Timebase) : (s.modTb f).tb = f s.tb := rfl
@[simp] theorem State.modTb_tmpl (s : State) (f : Timebase → Timebase) : (s.modTb f).tmpl = s.tmpl := rfl
@[simp] theorem State.modTb_det (s : State) (f : Timebase → Timebase) : (s.modTb f).det = s.det := rfl
@[simp] theorem State.modTb_ctl (s : State) (f : Timebase → Timebase) : (s.modTb f).ctl = s.ctl := rfl
@[simp] theorem State.modTb_dp (s : State) (f : Timebase → Timebase) : (s.modTb f).dp = s.dp := rfl
@[simp] theorem State.modTb_en (s : State) (f : Timebase → Timebase) : (s.modTb f).en = s.en := rfl
@[simp] theorem State.modTb_su (s : State) (f : Timebase → Timebase) : (s.modTb f).su = s.su := rfl
@[simp] theorem State.modTb_line (s : State) (f : Timebase → Timebase) : (s.modTb f).line = s.line := rfl
@[simp] theorem State.modTb_ep (s : State) (f : Timebase → Timebase) : (s.modTb f).ep = s.ep := rfl
@[simp] theorem State.modTb_cap (s : State) (f : Timebase → Timebase) : (s.modTb f).cap = s.cap := rfl
@[simp] theorem State.modTb_fm (s : State) (f : Timebase → Timebase) : (s.modTb f).fm = s.fm := rfl
@[simp] theorem State.modTb_port (s : State) (f : Timebase → Timebase) : (s.modTb f).port = s.port := rfl
@[simp] theorem State.modTb_inst (s : State) (f : Timebase → Timebase) : (s.modTb f).inst = s.inst := rfl
@[simp] theorem State.modTb_draws (s : State) (f : Timebase → Timebase) : (s.modTb f).draws = s.draws := rfl
@[simp] theorem State.modTb_pending (s : State) (f : Timebase → Timebase) : (s.modTb f).pending = s.pending := rfl

@[simp] theorem State.modTmpl_held (s : State) (f : Template → Template) : (s.modTmpl f).held = s.held := rfl
@[simp] theorem State.modTmpl_tb (s : State) (f : Template → Template) : (s.modTmpl f).tb = s.tb := rfl
@[simp] theorem State.modTmpl_tmpl (s : State) (f : Template → Template) : (s.modTmpl f).tmpl = f s.tmpl := rfl
@[simp] theorem State.modTmpl_det (s : State) (f : Template → Template) : (s.modTmpl f).det = s.det := rfl
@[simp] theorem State.modTmpl_ctl (s : State) (f : Template → Template) : (s.modTmpl f).ctl = s.ctl := rfl
@[simp] theorem State.modTmpl_dp (s : State) (f : Template → Template) : (s.modTmpl f).dp = s.dp := rfl
@[simp] theorem State.modTmpl_en (s : State) (f : Template → Template) : (s.modTmpl f).en = s.en := rfl
@[simp] theorem State.modTmpl_su (s : State) (f : Template → Template) : (s.modTmpl f).su = s.su := rfl
@[simp] theorem State.modTmpl_line (s : State) (f : Template → Template) : (s.modTmpl f).line = s.line := rfl
@[simp] theorem State.modTmpl_ep (s : State) (f : Template → Template) : (s.modTmpl f).ep = s.ep := rfl
@[simp] theorem State.modTmpl_cap (s : State) (f : Template → Template) : (s.modTmpl f).cap = s.cap := rfl
@[simp] theorem State.modTmpl_fm (s : State) (f : Template → Template) : (s.modTmpl f).fm = s.fm := rfl
@[simp] theorem State.modTmpl_port (s : State) (f : Template → Template) : (s.modTmpl f).port = s.port := rfl
@[simp] theorem State.modTmpl_inst (s : State) (f : Template → Template) : (s.modTmpl f).inst = s.inst := rfl
@[simp] theorem State.modTmpl_draws (s : State) (f : Template → Template) : (s.modTmpl f).draws = s.draws := rfl
@[simp] theorem State.modTmpl_pending (s : State) (f : Template → Template) : (s.modTmpl f).pending = s.pending := rfl

@[simp] theorem State.modDet_held (s : State) (f : Detector → Detector) : (s.modDet f).held = s.held := rfl
@[simp] theorem State.modDet_tb (s : State) (f : Detector → Detector) : (s.modDet f).tb = s.tb := rfl
@[simp] theorem State.modDet_tmpl (s : State) (f : Detector → Detector) : (s.modDet f).tmpl = s.tmpl := rfl
@[simp] theorem State.modDet_det (s : State) (f : Detector → Detector) : (s.modDet f).det = f s.det := rfl
@[simp] theorem State.modDet_ctl (s : State) (f : Detector → Detector) : (s.modDet f).ctl = s.ctl := rfl
@[simp] theorem State.modDet_dp (s : State) (f : Detector → Detector) : (s.modDet f).dp = s.dp := rfl
@[simp] theorem State.modDet_en (s : State) (f : Detector → Detector) : (s.modDet f).en = s.en := rfl
@[simp] theorem State.modDet_su (s : State) (f : Detector → Detector) : (s.modDet f).su = s.su := rfl
@[simp] theorem State.modDet_line (s : State) (f : Detector → Detector) : (s.modDet f).line = s.line := rfl
@[simp] theorem State.modDet_ep (s : State) (f : Detector → Detector) : (s.modDet f).ep = s.ep := rfl
@[simp] theorem State.modDet_cap (s : State) (f : Detector → Detector) : (s.modDet f).cap = s.cap := rfl
@[simp] theorem State.modDet_fm (s : State) (f : Detector → Detector) : (s.modDet f).fm = s.fm := rfl
@[simp] theorem State.modDet_port (s : State) (f : Detector → Detector) : (s.modDet f).port = s.port := rfl
@[simp] theorem State.modDet_inst (s : State) (f : Detector → Detector) : (s.modDet f).inst = s.inst := rfl
@[simp] theorem State.modDet_draws (s : State) (f : Detector → Detector) : (s.modDet f).draws = s.draws := rfl
@[simp] theorem State.modDet_pending (s : State) (f : Detector → Detector) : (s.modDet f).pending = s.pending := rfl

@[simp] theorem State.modCtl_held (s : State) (f : Controller → Controller) : (s.modCtl f).held = s.held := rfl
@[simp] theorem State.modCtl_tb (s : State) (f : Controller → Controller) : (s.modCtl f).tb = s.tb := rfl
@[simp] theorem State.modCtl_tmpl (s : State) (f : Controller → Controller) : (s.modCtl f).tmpl = s.tmpl := rfl
@[simp] theorem State.modCtl_det (s : State) (f : Controller → Controller) : (s.modCtl f).det = s.det := rfl
@[simp] theorem State.modCtl_ctl (s : State) (f : Controller → Controller) : (s.modCtl f).ctl = f s.ctl := rfl
@[simp] theorem State.modCtl_dp (s : State) (f : Controller → Controller) : (s.modCtl f).dp = s.dp := rfl
@[simp] theorem State.modCtl_en (s : State) (f : Controller → Controller) : (s.modCtl f).en = s.en := rfl
@[simp] theorem State.modCtl_su (s : State) (f : Controller → Controller) : (s.modCtl f).su = s.su := rfl
@[simp] theorem State.modCtl_line (s : State) (f : Controller → Controller) : (s.modCtl f).line = s.line := rfl
@[simp] theorem State.modCtl_ep (s : State) (f : Controller → Controller) : (s.modCtl f).ep = s.ep := rfl
@[simp] theorem State.modCtl_cap (s : State) (f : Controller → Controller) : (s.modCtl f).cap = s.cap := rfl
@[simp] theorem State.modCtl_fm (s : State) (f : Controller → Controller) : (s.modCtl f).fm = s.fm := rfl
@[simp] theorem State.modCtl_port (s : State) (f : Controller → Controller) : (s.modCtl f).port = s.port := rfl
@[simp] theorem State.modCtl_inst (s : State) (f : Controller → Controller) : (s.modCtl f).inst = s.inst := rfl
@[simp] theorem State.modCtl_draws (s : State) (f : Controller → Controller) : (s.modCtl f).draws = s.draws := rfl
@[simp] theorem State.modCtl_pending (s : State) (f : Controller → Controller) : (s.modCtl f).pending = s.pending := rfl

@[simp] theorem State.modDp_held (s : State) (f : Datapath → Datapath) : (s.modDp f).held = s.held := rfl
@[simp] theorem State.modDp_tb (s : State) (f : Datapath → Datapath) : (s.modDp f).tb = s.tb := rfl
@[simp] theorem State.modDp_tmpl (s : State) (f : Datapath → Datapath) : (s.modDp f).tmpl = s.tmpl := rfl
@[simp] theorem State.modDp_det (s : State) (f : Datapath → Datapath) : (s.modDp f).det = s.det := rfl
@[simp] theorem State.modDp_ctl (s : State) (f : Datapath → Datapath) : (s.modDp f).ctl = s.ctl := rfl
@[simp] theorem State.modDp_dp (s : State) (f : Datapath → Datapath) : (s.modDp f).dp = f s.dp := rfl
@[simp] theorem State.modDp_en (s : State) (f : Datapath → Datapath) : (s.modDp f).en = s.en := rfl
@[simp] theorem State.modDp_su (s : State) (f : Datapath → Datapath) : (s.modDp f).su = s.su := rfl
@[simp] theorem State.modDp_line (s : State) (f : Datapath → Datapath) : (s.modDp f).line = s.line := rfl
@[simp] theorem State.modDp_ep (s : State) (f : Datapath → Datapath) : (s.modDp f).ep = s.ep := rfl
@[simp] theorem State.modDp_cap (s : State) (f : Datapath → Datapath) : (s.modDp f).cap = s.cap := rfl
@[simp] theorem State.modDp_fm (s : State) (f : Datapath → Datapath) : (s.modDp f).fm = s.fm := rfl
@[simp] theorem State.modDp_port (s : State) (f : Datapath → Datapath) : (s.modDp f).port = s.port := rfl
@[simp] theorem State.modDp_inst (s : State) (f : Datapath → Datapath) : (s.modDp f).inst = s.inst := rfl
@[simp] theorem State.modDp_draws (s : State) (f : Datapath → Datapath) : (s.modDp f).draws = s.draws := rfl
@[simp] theorem State.modDp_pending (s : State) (f : Datapath → Datapath) : (s.modDp f).pending = s.pending := rfl

@[simp] theorem State.modEn_held (s : State) (f : Energy → Energy) : (s.modEn f).held = s.held := rfl
@[simp] theorem State.modEn_tb (s : State) (f : Energy → Energy) : (s.modEn f).tb = s.tb := rfl
@[simp] theorem State.modEn_tmpl (s : State) (f : Energy → Energy) : (s.modEn f).tmpl = s.tmpl := rfl
@[simp] theorem State.modEn_det (s : State) (f : Energy → Energy) : (s.modEn f).det = s.det := rfl
@[simp] theorem State.modEn_ctl (s : State) (f : Energy → Energy) : (s.modEn f).ctl = s.ctl := rfl
@[simp] theorem State.modEn_dp (s : State) (f : Energy → Energy) : (s.modEn f).dp = s.dp := rfl
@[simp] theorem State.modEn_en (s : State) (f : Energy → Energy) : (s.modEn f).en = f s.en := rfl
@[simp] theorem State.modEn_su (s : State) (f : Energy → Energy) : (s.modEn f).su = s.su := rfl
@[simp] theorem State.modEn_line (s : State) (f : Energy → Energy) : (s.modEn f).line = s.line := rfl
@[simp] theorem State.modEn_ep (s : State) (f : Energy → Energy) : (s.modEn f).ep = s.ep := rfl
@[simp] theorem State.modEn_cap (s : State) (f : Energy → Energy) : (s.modEn f).cap = s.cap := rfl
@[simp] theorem State.modEn_fm (s : State) (f : Energy → Energy) : (s.modEn f).fm = s.fm := rfl
@[simp] theorem State.modEn_port (s : State) (f : Energy → Energy) : (s.modEn f).port = s.port := rfl
@[simp] theorem State.modEn_inst (s : State) (f : Energy → Energy) : (s.modEn f).inst = s.inst := rfl
@[simp] theorem State.modEn_draws (s : State) (f : Energy → Energy) : (s.modEn f).draws = s.draws := rfl
@[simp] theorem State.modEn_pending (s : State) (f : Energy → Energy) : (s.modEn f).pending = s.pending := rfl

@[simp] theorem State.modSu_held (s : State) (f : ShareUnit → ShareUnit) : (s.modSu f).held = s.held := rfl
@[simp] theorem State.modSu_tb (s : State) (f : ShareUnit → ShareUnit) : (s.modSu f).tb = s.tb := rfl
@[simp] theorem State.modSu_tmpl (s : State) (f : ShareUnit → ShareUnit) : (s.modSu f).tmpl = s.tmpl := rfl
@[simp] theorem State.modSu_det (s : State) (f : ShareUnit → ShareUnit) : (s.modSu f).det = s.det := rfl
@[simp] theorem State.modSu_ctl (s : State) (f : ShareUnit → ShareUnit) : (s.modSu f).ctl = s.ctl := rfl
@[simp] theorem State.modSu_dp (s : State) (f : ShareUnit → ShareUnit) : (s.modSu f).dp = s.dp := rfl
@[simp] theorem State.modSu_en (s : State) (f : ShareUnit → ShareUnit) : (s.modSu f).en = s.en := rfl
@[simp] theorem State.modSu_su (s : State) (f : ShareUnit → ShareUnit) : (s.modSu f).su = f s.su := rfl
@[simp] theorem State.modSu_line (s : State) (f : ShareUnit → ShareUnit) : (s.modSu f).line = s.line := rfl
@[simp] theorem State.modSu_ep (s : State) (f : ShareUnit → ShareUnit) : (s.modSu f).ep = s.ep := rfl
@[simp] theorem State.modSu_cap (s : State) (f : ShareUnit → ShareUnit) : (s.modSu f).cap = s.cap := rfl
@[simp] theorem State.modSu_fm (s : State) (f : ShareUnit → ShareUnit) : (s.modSu f).fm = s.fm := rfl
@[simp] theorem State.modSu_port (s : State) (f : ShareUnit → ShareUnit) : (s.modSu f).port = s.port := rfl
@[simp] theorem State.modSu_inst (s : State) (f : ShareUnit → ShareUnit) : (s.modSu f).inst = s.inst := rfl
@[simp] theorem State.modSu_draws (s : State) (f : ShareUnit → ShareUnit) : (s.modSu f).draws = s.draws := rfl
@[simp] theorem State.modSu_pending (s : State) (f : ShareUnit → ShareUnit) : (s.modSu f).pending = s.pending := rfl

@[simp] theorem State.modLine_held (s : State) (f : Line → Line) : (s.modLine f).held = s.held := rfl
@[simp] theorem State.modLine_tb (s : State) (f : Line → Line) : (s.modLine f).tb = s.tb := rfl
@[simp] theorem State.modLine_tmpl (s : State) (f : Line → Line) : (s.modLine f).tmpl = s.tmpl := rfl
@[simp] theorem State.modLine_det (s : State) (f : Line → Line) : (s.modLine f).det = s.det := rfl
@[simp] theorem State.modLine_ctl (s : State) (f : Line → Line) : (s.modLine f).ctl = s.ctl := rfl
@[simp] theorem State.modLine_dp (s : State) (f : Line → Line) : (s.modLine f).dp = s.dp := rfl
@[simp] theorem State.modLine_en (s : State) (f : Line → Line) : (s.modLine f).en = s.en := rfl
@[simp] theorem State.modLine_su (s : State) (f : Line → Line) : (s.modLine f).su = s.su := rfl
@[simp] theorem State.modLine_line (s : State) (f : Line → Line) : (s.modLine f).line = f s.line := rfl
@[simp] theorem State.modLine_ep (s : State) (f : Line → Line) : (s.modLine f).ep = s.ep := rfl
@[simp] theorem State.modLine_cap (s : State) (f : Line → Line) : (s.modLine f).cap = s.cap := rfl
@[simp] theorem State.modLine_fm (s : State) (f : Line → Line) : (s.modLine f).fm = s.fm := rfl
@[simp] theorem State.modLine_port (s : State) (f : Line → Line) : (s.modLine f).port = s.port := rfl
@[simp] theorem State.modLine_inst (s : State) (f : Line → Line) : (s.modLine f).inst = s.inst := rfl
@[simp] theorem State.modLine_draws (s : State) (f : Line → Line) : (s.modLine f).draws = s.draws := rfl
@[simp] theorem State.modLine_pending (s : State) (f : Line → Line) : (s.modLine f).pending = s.pending := rfl

@[simp] theorem State.modEp_held (s : State) (f : Episodes → Episodes) : (s.modEp f).held = s.held := rfl
@[simp] theorem State.modEp_tb (s : State) (f : Episodes → Episodes) : (s.modEp f).tb = s.tb := rfl
@[simp] theorem State.modEp_tmpl (s : State) (f : Episodes → Episodes) : (s.modEp f).tmpl = s.tmpl := rfl
@[simp] theorem State.modEp_det (s : State) (f : Episodes → Episodes) : (s.modEp f).det = s.det := rfl
@[simp] theorem State.modEp_ctl (s : State) (f : Episodes → Episodes) : (s.modEp f).ctl = s.ctl := rfl
@[simp] theorem State.modEp_dp (s : State) (f : Episodes → Episodes) : (s.modEp f).dp = s.dp := rfl
@[simp] theorem State.modEp_en (s : State) (f : Episodes → Episodes) : (s.modEp f).en = s.en := rfl
@[simp] theorem State.modEp_su (s : State) (f : Episodes → Episodes) : (s.modEp f).su = s.su := rfl
@[simp] theorem State.modEp_line (s : State) (f : Episodes → Episodes) : (s.modEp f).line = s.line := rfl
@[simp] theorem State.modEp_ep (s : State) (f : Episodes → Episodes) : (s.modEp f).ep = f s.ep := rfl
@[simp] theorem State.modEp_cap (s : State) (f : Episodes → Episodes) : (s.modEp f).cap = s.cap := rfl
@[simp] theorem State.modEp_fm (s : State) (f : Episodes → Episodes) : (s.modEp f).fm = s.fm := rfl
@[simp] theorem State.modEp_port (s : State) (f : Episodes → Episodes) : (s.modEp f).port = s.port := rfl
@[simp] theorem State.modEp_inst (s : State) (f : Episodes → Episodes) : (s.modEp f).inst = s.inst := rfl
@[simp] theorem State.modEp_draws (s : State) (f : Episodes → Episodes) : (s.modEp f).draws = s.draws := rfl
@[simp] theorem State.modEp_pending (s : State) (f : Episodes → Episodes) : (s.modEp f).pending = s.pending := rfl

@[simp] theorem State.modCap_held (s : State) (f : Capture → Capture) : (s.modCap f).held = s.held := rfl
@[simp] theorem State.modCap_tb (s : State) (f : Capture → Capture) : (s.modCap f).tb = s.tb := rfl
@[simp] theorem State.modCap_tmpl (s : State) (f : Capture → Capture) : (s.modCap f).tmpl = s.tmpl := rfl
@[simp] theorem State.modCap_det (s : State) (f : Capture → Capture) : (s.modCap f).det = s.det := rfl
@[simp] theorem State.modCap_ctl (s : State) (f : Capture → Capture) : (s.modCap f).ctl = s.ctl := rfl
@[simp] theorem State.modCap_dp (s : State) (f : Capture → Capture) : (s.modCap f).dp = s.dp := rfl
@[simp] theorem State.modCap_en (s : State) (f : Capture → Capture) : (s.modCap f).en = s.en := rfl
@[simp] theorem State.modCap_su (s : State) (f : Capture → Capture) : (s.modCap f).su = s.su := rfl
@[simp] theorem State.modCap_line (s : State) (f : Capture → Capture) : (s.modCap f).line = s.line := rfl
@[simp] theorem State.modCap_ep (s : State) (f : Capture → Capture) : (s.modCap f).ep = s.ep := rfl
@[simp] theorem State.modCap_cap (s : State) (f : Capture → Capture) : (s.modCap f).cap = f s.cap := rfl
@[simp] theorem State.modCap_fm (s : State) (f : Capture → Capture) : (s.modCap f).fm = s.fm := rfl
@[simp] theorem State.modCap_port (s : State) (f : Capture → Capture) : (s.modCap f).port = s.port := rfl
@[simp] theorem State.modCap_inst (s : State) (f : Capture → Capture) : (s.modCap f).inst = s.inst := rfl
@[simp] theorem State.modCap_draws (s : State) (f : Capture → Capture) : (s.modCap f).draws = s.draws := rfl
@[simp] theorem State.modCap_pending (s : State) (f : Capture → Capture) : (s.modCap f).pending = s.pending := rfl

@[simp] theorem State.modFm_held (s : State) (f : FaultMonitor → FaultMonitor) : (s.modFm f).held = s.held := rfl
@[simp] theorem State.modFm_tb (s : State) (f : FaultMonitor → FaultMonitor) : (s.modFm f).tb = s.tb := rfl
@[simp] theorem State.modFm_tmpl (s : State) (f : FaultMonitor → FaultMonitor) : (s.modFm f).tmpl = s.tmpl := rfl
@[simp] theorem State.modFm_det (s : State) (f : FaultMonitor → FaultMonitor) : (s.modFm f).det = s.det := rfl
@[simp] theorem State.modFm_ctl (s : State) (f : FaultMonitor → FaultMonitor) : (s.modFm f).ctl = s.ctl := rfl
@[simp] theorem State.modFm_dp (s : State) (f : FaultMonitor → FaultMonitor) : (s.modFm f).dp = s.dp := rfl
@[simp] theorem State.modFm_en (s : State) (f : FaultMonitor → FaultMonitor) : (s.modFm f).en = s.en := rfl
@[simp] theorem State.modFm_su (s : State) (f : FaultMonitor → FaultMonitor) : (s.modFm f).su = s.su := rfl
@[simp] theorem State.modFm_line (s : State) (f : FaultMonitor → FaultMonitor) : (s.modFm f).line = s.line := rfl
@[simp] theorem State.modFm_ep (s : State) (f : FaultMonitor → FaultMonitor) : (s.modFm f).ep = s.ep := rfl
@[simp] theorem State.modFm_cap (s : State) (f : FaultMonitor → FaultMonitor) : (s.modFm f).cap = s.cap := rfl
@[simp] theorem State.modFm_fm (s : State) (f : FaultMonitor → FaultMonitor) : (s.modFm f).fm = f s.fm := rfl
@[simp] theorem State.modFm_port (s : State) (f : FaultMonitor → FaultMonitor) : (s.modFm f).port = s.port := rfl
@[simp] theorem State.modFm_inst (s : State) (f : FaultMonitor → FaultMonitor) : (s.modFm f).inst = s.inst := rfl
@[simp] theorem State.modFm_draws (s : State) (f : FaultMonitor → FaultMonitor) : (s.modFm f).draws = s.draws := rfl
@[simp] theorem State.modFm_pending (s : State) (f : FaultMonitor → FaultMonitor) : (s.modFm f).pending = s.pending := rfl

@[simp] theorem State.modPort_held (s : State) (f : Port → Port) : (s.modPort f).held = s.held := rfl
@[simp] theorem State.modPort_tb (s : State) (f : Port → Port) : (s.modPort f).tb = s.tb := rfl
@[simp] theorem State.modPort_tmpl (s : State) (f : Port → Port) : (s.modPort f).tmpl = s.tmpl := rfl
@[simp] theorem State.modPort_det (s : State) (f : Port → Port) : (s.modPort f).det = s.det := rfl
@[simp] theorem State.modPort_ctl (s : State) (f : Port → Port) : (s.modPort f).ctl = s.ctl := rfl
@[simp] theorem State.modPort_dp (s : State) (f : Port → Port) : (s.modPort f).dp = s.dp := rfl
@[simp] theorem State.modPort_en (s : State) (f : Port → Port) : (s.modPort f).en = s.en := rfl
@[simp] theorem State.modPort_su (s : State) (f : Port → Port) : (s.modPort f).su = s.su := rfl
@[simp] theorem State.modPort_line (s : State) (f : Port → Port) : (s.modPort f).line = s.line := rfl
@[simp] theorem State.modPort_ep (s : State) (f : Port → Port) : (s.modPort f).ep = s.ep := rfl
@[simp] theorem State.modPort_cap (s : State) (f : Port → Port) : (s.modPort f).cap = s.cap := rfl
@[simp] theorem State.modPort_fm (s : State) (f : Port → Port) : (s.modPort f).fm = s.fm := rfl
@[simp] theorem State.modPort_port (s : State) (f : Port → Port) : (s.modPort f).port = f s.port := rfl
@[simp] theorem State.modPort_inst (s : State) (f : Port → Port) : (s.modPort f).inst = s.inst := rfl
@[simp] theorem State.modPort_draws (s : State) (f : Port → Port) : (s.modPort f).draws = s.draws := rfl
@[simp] theorem State.modPort_pending (s : State) (f : Port → Port) : (s.modPort f).pending = s.pending := rfl

@[simp] theorem State.modInst_held (s : State) (f : Instant → Instant) : (s.modInst f).held = s.held := rfl
@[simp] theorem State.modInst_tb (s : State) (f : Instant → Instant) : (s.modInst f).tb = s.tb := rfl
@[simp] theorem State.modInst_tmpl (s : State) (f : Instant → Instant) : (s.modInst f).tmpl = s.tmpl := rfl
@[simp] theorem State.modInst_det (s : State) (f : Instant → Instant) : (s.modInst f).det = s.det := rfl
@[simp] theorem State.modInst_ctl (s : State) (f : Instant → Instant) : (s.modInst f).ctl = s.ctl := rfl
@[simp] theorem State.modInst_dp (s : State) (f : Instant → Instant) : (s.modInst f).dp = s.dp := rfl
@[simp] theorem State.modInst_en (s : State) (f : Instant → Instant) : (s.modInst f).en = s.en := rfl
@[simp] theorem State.modInst_su (s : State) (f : Instant → Instant) : (s.modInst f).su = s.su := rfl
@[simp] theorem State.modInst_line (s : State) (f : Instant → Instant) : (s.modInst f).line = s.line := rfl
@[simp] theorem State.modInst_ep (s : State) (f : Instant → Instant) : (s.modInst f).ep = s.ep := rfl
@[simp] theorem State.modInst_cap (s : State) (f : Instant → Instant) : (s.modInst f).cap = s.cap := rfl
@[simp] theorem State.modInst_fm (s : State) (f : Instant → Instant) : (s.modInst f).fm = s.fm := rfl
@[simp] theorem State.modInst_port (s : State) (f : Instant → Instant) : (s.modInst f).port = s.port := rfl
@[simp] theorem State.modInst_inst (s : State) (f : Instant → Instant) : (s.modInst f).inst = f s.inst := rfl
@[simp] theorem State.modInst_draws (s : State) (f : Instant → Instant) : (s.modInst f).draws = s.draws := rfl
@[simp] theorem State.modInst_pending (s : State) (f : Instant → Instant) : (s.modInst f).pending = s.pending := rfl

end Sys2Proof.Machine
end

