-- ==== Sys2Proof/Laws/OpsFrames.lean ====
section
/-! SUPPORT. What each shared operation leaves unchanged: every block but those it writes. -/

namespace Sys2Proof.Machine

@[simp] theorem State.raise_frame (s : State) (e : Event) :
    (s.raise e).held = s.held ∧ (s.raise e).tb = s.tb ∧ (s.raise e).tmpl = s.tmpl ∧
    (s.raise e).det = s.det ∧ (s.raise e).ctl = s.ctl ∧ (s.raise e).dp = s.dp ∧ (s.raise e).en = s.en ∧
    (s.raise e).su = s.su ∧ (s.raise e).line = s.line ∧ (s.raise e).ep = s.ep ∧ (s.raise e).cap = s.cap ∧
    (s.raise e).fm = s.fm ∧ (s.raise e).inst = s.inst ∧ (s.raise e).draws = s.draws ∧
    (s.raise e).pending = s.pending := by
  simp [State.raise]

@[simp] theorem State.endCapture_frame (s : State) (one : Bool) (st : CaptureStatus) :
    (s.endCapture one st).held = s.held ∧ (s.endCapture one st).tb = s.tb ∧
    (s.endCapture one st).tmpl = s.tmpl ∧ (s.endCapture one st).det = s.det ∧
    (s.endCapture one st).ctl = s.ctl ∧ (s.endCapture one st).dp = s.dp ∧
    (s.endCapture one st).en = s.en ∧ (s.endCapture one st).su = s.su ∧
    (s.endCapture one st).line = s.line ∧ (s.endCapture one st).ep = s.ep ∧
    (s.endCapture one st).fm = s.fm ∧ (s.endCapture one st).inst = s.inst ∧
    (s.endCapture one st).draws = s.draws ∧ (s.endCapture one st).pending = s.pending := by
  simp [State.endCapture]

@[simp] theorem State.askCopy_frame (s : State) (one : Bool) :
    (s.askCopy one).held = s.held ∧ (s.askCopy one).tb = s.tb ∧ (s.askCopy one).tmpl = s.tmpl ∧
    (s.askCopy one).det = s.det ∧ (s.askCopy one).ctl = s.ctl ∧ (s.askCopy one).dp = s.dp ∧
    (s.askCopy one).en = s.en ∧ (s.askCopy one).su = s.su ∧ (s.askCopy one).line = s.line ∧
    (s.askCopy one).ep = s.ep ∧ (s.askCopy one).fm = s.fm ∧ (s.askCopy one).inst = s.inst ∧
    (s.askCopy one).draws = s.draws ∧ (s.askCopy one).pending = s.pending := by
  simp only [State.askCopy]
  (repeat' split) <;> simp

@[simp] theorem State.triggerOne_frame (s : State) (k : TriggerKind) (one : Bool) :
    (s.triggerOne k one).held = s.held ∧ (s.triggerOne k one).tb = s.tb ∧
    (s.triggerOne k one).tmpl = s.tmpl ∧ (s.triggerOne k one).det = s.det ∧
    (s.triggerOne k one).ctl = s.ctl ∧ (s.triggerOne k one).dp = s.dp ∧ (s.triggerOne k one).en = s.en ∧
    (s.triggerOne k one).su = s.su ∧ (s.triggerOne k one).line = s.line ∧
    (s.triggerOne k one).ep = s.ep ∧ (s.triggerOne k one).fm = s.fm ∧
    (s.triggerOne k one).inst = s.inst ∧ (s.triggerOne k one).draws = s.draws ∧
    (s.triggerOne k one).pending = s.pending := by
  simp only [State.triggerOne]
  (repeat' split) <;> simp

@[simp] theorem State.giveTrigger_frame (s : State) (k : TriggerKind) :
    (s.giveTrigger k).held = s.held ∧ (s.giveTrigger k).tb = s.tb ∧ (s.giveTrigger k).tmpl = s.tmpl ∧
    (s.giveTrigger k).det = s.det ∧ (s.giveTrigger k).ctl = s.ctl ∧ (s.giveTrigger k).dp = s.dp ∧
    (s.giveTrigger k).en = s.en ∧ (s.giveTrigger k).su = s.su ∧ (s.giveTrigger k).line = s.line ∧
    (s.giveTrigger k).ep = s.ep ∧ (s.giveTrigger k).fm = s.fm ∧ (s.giveTrigger k).inst = s.inst ∧
    (s.giveTrigger k).draws = s.draws ∧ (s.giveTrigger k).pending = s.pending := by
  simp [State.giveTrigger]

@[simp] theorem State.enqueue_frame (s : State) (c : FrameClass) :
    (s.enqueue c).held = s.held ∧ (s.enqueue c).tb = s.tb ∧ (s.enqueue c).tmpl = s.tmpl ∧
    (s.enqueue c).det = s.det ∧ (s.enqueue c).ctl = s.ctl ∧ (s.enqueue c).dp = s.dp ∧
    (s.enqueue c).en = s.en ∧ (s.enqueue c).su = s.su ∧ (s.enqueue c).ep = s.ep ∧
    (s.enqueue c).cap = s.cap ∧ (s.enqueue c).fm = s.fm ∧ (s.enqueue c).port = s.port ∧
    (s.enqueue c).inst = s.inst ∧ (s.enqueue c).draws = s.draws ∧ (s.enqueue c).pending = s.pending := by
  simp only [State.enqueue]
  (repeat' split) <;> simp

@[simp] theorem State.removeQueued_frame (s : State) (c : FrameClass) :
    (s.removeQueued c).held = s.held ∧ (s.removeQueued c).tb = s.tb ∧ (s.removeQueued c).tmpl = s.tmpl ∧
    (s.removeQueued c).det = s.det ∧ (s.removeQueued c).ctl = s.ctl ∧ (s.removeQueued c).dp = s.dp ∧
    (s.removeQueued c).en = s.en ∧ (s.removeQueued c).su = s.su ∧ (s.removeQueued c).ep = s.ep ∧
    (s.removeQueued c).cap = s.cap ∧ (s.removeQueued c).fm = s.fm ∧ (s.removeQueued c).port = s.port ∧
    (s.removeQueued c).inst = s.inst ∧ (s.removeQueued c).draws = s.draws ∧
    (s.removeQueued c).pending = s.pending := by
  simp [State.removeQueued]

@[simp] theorem State.setShare_frame (s : State) :
    (s.setShare).held = s.held ∧ (s.setShare).tb = s.tb ∧ (s.setShare).tmpl = s.tmpl ∧
    (s.setShare).det = s.det ∧ (s.setShare).ctl = s.ctl ∧ (s.setShare).en = s.en ∧
    (s.setShare).line = s.line ∧ (s.setShare).ep = s.ep ∧ (s.setShare).cap = s.cap ∧
    (s.setShare).fm = s.fm ∧ (s.setShare).port = s.port ∧ (s.setShare).inst = s.inst ∧
    (s.setShare).draws = s.draws ∧ (s.setShare).pending = s.pending := by
  simp [State.setShare]

@[simp] theorem State.cutCommand_frame (s : State) :
    (s.cutCommand).held = s.held ∧ (s.cutCommand).tb = s.tb ∧ (s.cutCommand).tmpl = s.tmpl ∧
    (s.cutCommand).det = s.det ∧ (s.cutCommand).ctl = s.ctl ∧ (s.cutCommand).en = s.en ∧
    (s.cutCommand).su = s.su ∧ (s.cutCommand).line = s.line ∧ (s.cutCommand).ep = s.ep ∧
    (s.cutCommand).cap = s.cap ∧ (s.cutCommand).fm = s.fm ∧ (s.cutCommand).port = s.port ∧
    (s.cutCommand).inst = s.inst ∧ (s.cutCommand).draws = s.draws ∧ (s.cutCommand).pending = s.pending := by
  simp [State.cutCommand]

@[simp] theorem State.setCharge_frame (s : State) :
    (s.setCharge).held = s.held ∧ (s.setCharge).tb = s.tb ∧ (s.setCharge).tmpl = s.tmpl ∧
    (s.setCharge).det = s.det ∧ (s.setCharge).dp = s.dp ∧ (s.setCharge).su = s.su ∧
    (s.setCharge).line = s.line ∧ (s.setCharge).ep = s.ep ∧ (s.setCharge).cap = s.cap ∧
    (s.setCharge).fm = s.fm ∧ (s.setCharge).port = s.port ∧ (s.setCharge).inst = s.inst ∧
    (s.setCharge).draws = s.draws ∧ (s.setCharge).pending = s.pending := by
  simp [State.setCharge]

@[simp] theorem State.leaveInjecting_frame (s : State) :
    (s.leaveInjecting).held = s.held ∧ (s.leaveInjecting).tb = s.tb ∧ (s.leaveInjecting).tmpl = s.tmpl ∧
    (s.leaveInjecting).ctl = s.ctl ∧ (s.leaveInjecting).dp = s.dp ∧ (s.leaveInjecting).en = s.en ∧
    (s.leaveInjecting).su = s.su ∧ (s.leaveInjecting).ep = s.ep ∧ (s.leaveInjecting).cap = s.cap ∧
    (s.leaveInjecting).fm = s.fm ∧ (s.leaveInjecting).port = s.port ∧ (s.leaveInjecting).inst = s.inst ∧
    (s.leaveInjecting).draws = s.draws ∧ (s.leaveInjecting).pending = s.pending := by
  simp [State.leaveInjecting]

@[simp] theorem State.setService_frame (s : State) (t : ServiceState) :
    (s.setService t).held = s.held ∧ (s.setService t).tb = s.tb ∧ (s.setService t).tmpl = s.tmpl ∧
    (s.setService t).ep = s.ep ∧ (s.setService t).cap = s.cap ∧ (s.setService t).fm = s.fm ∧
    (s.setService t).port = s.port ∧ (s.setService t).inst = s.inst ∧ (s.setService t).draws = s.draws ∧
    (s.setService t).pending = s.pending := by
  simp only [State.setService]
  (repeat' split) <;> simp

@[simp] theorem State.testReady_frame (s : State) :
    (s.testReady).held = s.held ∧ (s.testReady).tb = s.tb ∧ (s.testReady).tmpl = s.tmpl ∧
    (s.testReady).ep = s.ep ∧ (s.testReady).cap = s.cap ∧ (s.testReady).fm = s.fm ∧
    (s.testReady).port = s.port ∧ (s.testReady).inst = s.inst ∧ (s.testReady).draws = s.draws ∧
    (s.testReady).pending = s.pending := by
  simp only [State.testReady]
  (repeat' split) <;> simp

@[simp] theorem State.zeroMetric_frame (s : State) :
    (s.zeroMetric).held = s.held ∧ (s.zeroMetric).tb = s.tb ∧ (s.zeroMetric).tmpl = s.tmpl ∧
    (s.zeroMetric).ctl = s.ctl ∧ (s.zeroMetric).dp = s.dp ∧ (s.zeroMetric).en = s.en ∧
    (s.zeroMetric).su = s.su ∧ (s.zeroMetric).line = s.line ∧ (s.zeroMetric).ep = s.ep ∧
    (s.zeroMetric).cap = s.cap ∧ (s.zeroMetric).fm = s.fm ∧ (s.zeroMetric).port = s.port ∧
    (s.zeroMetric).inst = s.inst ∧ (s.zeroMetric).draws = s.draws ∧ (s.zeroMetric).pending = s.pending := by
  simp [State.zeroMetric]

@[simp] theorem State.emptyRing_frame (s : State) :
    (s.emptyRing).held = s.held ∧ (s.emptyRing).tb = s.tb ∧ (s.emptyRing).ep = s.ep ∧
    (s.emptyRing).cap = s.cap ∧ (s.emptyRing).fm = s.fm ∧ (s.emptyRing).port = s.port ∧
    (s.emptyRing).inst = s.inst ∧ (s.emptyRing).draws = s.draws ∧ (s.emptyRing).pending = s.pending := by
  simp only [State.emptyRing]
  (repeat' split) <;> simp

@[simp] theorem State.modRecord_frame (s : State) (f : Record → Record) :
    (s.modRecord f).held = s.held ∧ (s.modRecord f).tb = s.tb ∧ (s.modRecord f).tmpl = s.tmpl ∧
    (s.modRecord f).det = s.det ∧ (s.modRecord f).ctl = s.ctl ∧ (s.modRecord f).dp = s.dp ∧
    (s.modRecord f).en = s.en ∧ (s.modRecord f).su = s.su ∧ (s.modRecord f).line = s.line ∧
    (s.modRecord f).cap = s.cap ∧ (s.modRecord f).fm = s.fm ∧ (s.modRecord f).port = s.port ∧
    (s.modRecord f).inst = s.inst ∧ (s.modRecord f).draws = s.draws ∧ (s.modRecord f).pending = s.pending := by
  simp [State.modRecord]

@[simp] theorem State.contribute_frame (s : State) (f : Record → Record) :
    (s.contribute f).held = s.held ∧ (s.contribute f).tb = s.tb ∧ (s.contribute f).tmpl = s.tmpl ∧
    (s.contribute f).det = s.det ∧ (s.contribute f).ctl = s.ctl ∧ (s.contribute f).dp = s.dp ∧
    (s.contribute f).en = s.en ∧ (s.contribute f).su = s.su ∧ (s.contribute f).line = s.line ∧
    (s.contribute f).cap = s.cap ∧ (s.contribute f).fm = s.fm ∧ (s.contribute f).port = s.port ∧
    (s.contribute f).inst = s.inst ∧ (s.contribute f).draws = s.draws ∧
    (s.contribute f).pending = s.pending := by
  simp only [State.contribute]
  (repeat' split) <;> simp

@[simp] theorem State.makeRoom_frame (s : State) :
    (s.makeRoom).held = s.held ∧ (s.makeRoom).tb = s.tb ∧ (s.makeRoom).tmpl = s.tmpl ∧
    (s.makeRoom).det = s.det ∧ (s.makeRoom).ctl = s.ctl ∧ (s.makeRoom).dp = s.dp ∧
    (s.makeRoom).en = s.en ∧ (s.makeRoom).su = s.su ∧ (s.makeRoom).line = s.line ∧
    (s.makeRoom).cap = s.cap ∧ (s.makeRoom).fm = s.fm ∧ (s.makeRoom).inst = s.inst ∧
    (s.makeRoom).draws = s.draws ∧ (s.makeRoom).pending = s.pending := by
  simp only [State.makeRoom]
  (repeat' split) <;> simp

@[simp] theorem State.openRecord_frame (s : State) (o : Onset) :
    (s.openRecord o).held = s.held ∧ (s.openRecord o).tb = s.tb ∧ (s.openRecord o).tmpl = s.tmpl ∧
    (s.openRecord o).det = s.det ∧ (s.openRecord o).ctl = s.ctl ∧ (s.openRecord o).dp = s.dp ∧
    (s.openRecord o).en = s.en ∧ (s.openRecord o).su = s.su ∧ (s.openRecord o).line = s.line ∧
    (s.openRecord o).cap = s.cap ∧ (s.openRecord o).fm = s.fm ∧ (s.openRecord o).inst = s.inst ∧
    (s.openRecord o).draws = s.draws ∧ (s.openRecord o).pending = s.pending := by
  simp [State.openRecord]

@[simp] theorem State.closeQuietly_frame (s : State) (out : EpisodeOutcome) :
    (s.closeQuietly out).held = s.held ∧ (s.closeQuietly out).tb = s.tb ∧
    (s.closeQuietly out).tmpl = s.tmpl ∧ (s.closeQuietly out).det = s.det ∧
    (s.closeQuietly out).ctl = s.ctl ∧ (s.closeQuietly out).dp = s.dp ∧ (s.closeQuietly out).en = s.en ∧
    (s.closeQuietly out).su = s.su ∧ (s.closeQuietly out).line = s.line ∧
    (s.closeQuietly out).cap = s.cap ∧ (s.closeQuietly out).fm = s.fm ∧
    (s.closeQuietly out).port = s.port ∧ (s.closeQuietly out).inst = s.inst ∧
    (s.closeQuietly out).draws = s.draws ∧ (s.closeQuietly out).pending = s.pending := by
  simp only [State.closeQuietly]
  (repeat' split) <;> simp

@[simp] theorem State.closeRecord_frame (s : State) (out : EpisodeOutcome) :
    (s.closeRecord out).held = s.held ∧ (s.closeRecord out).tb = s.tb ∧
    (s.closeRecord out).tmpl = s.tmpl ∧ (s.closeRecord out).det = s.det ∧
    (s.closeRecord out).ctl = s.ctl ∧ (s.closeRecord out).dp = s.dp ∧ (s.closeRecord out).en = s.en ∧
    (s.closeRecord out).su = s.su ∧ (s.closeRecord out).line = s.line ∧ (s.closeRecord out).cap = s.cap ∧
    (s.closeRecord out).fm = s.fm ∧ (s.closeRecord out).inst = s.inst ∧
    (s.closeRecord out).draws = s.draws ∧ (s.closeRecord out).pending = s.pending := by
  simp only [State.closeRecord]
  (repeat' split) <;> simp

@[simp] theorem State.unservedRecord_frame (s : State) (o : Onset) :
    (s.unservedRecord o).held = s.held ∧ (s.unservedRecord o).tb = s.tb ∧
    (s.unservedRecord o).tmpl = s.tmpl ∧ (s.unservedRecord o).det = s.det ∧
    (s.unservedRecord o).ctl = s.ctl ∧ (s.unservedRecord o).dp = s.dp ∧ (s.unservedRecord o).en = s.en ∧
    (s.unservedRecord o).su = s.su ∧ (s.unservedRecord o).line = s.line ∧
    (s.unservedRecord o).cap = s.cap ∧ (s.unservedRecord o).fm = s.fm ∧
    (s.unservedRecord o).inst = s.inst ∧ (s.unservedRecord o).draws = s.draws ∧
    (s.unservedRecord o).pending = s.pending := by
  simp [State.unservedRecord]

@[simp] theorem State.beginClosing_frame (s : State) :
    (s.beginClosing).held = s.held ∧ (s.beginClosing).tb = s.tb ∧ (s.beginClosing).tmpl = s.tmpl ∧
    (s.beginClosing).det = s.det ∧ (s.beginClosing).en = s.en ∧ (s.beginClosing).su = s.su ∧
    (s.beginClosing).line = s.line ∧ (s.beginClosing).ep = s.ep ∧ (s.beginClosing).cap = s.cap ∧
    (s.beginClosing).fm = s.fm ∧ (s.beginClosing).port = s.port ∧ (s.beginClosing).draws = s.draws ∧
    (s.beginClosing).pending = s.pending := by
  simp [State.beginClosing]

@[simp] theorem State.recordHandback_frame (s : State) (c : Cause) :
    (s.recordHandback c).held = s.held ∧ (s.recordHandback c).tb = s.tb ∧
    (s.recordHandback c).tmpl = s.tmpl ∧ (s.recordHandback c).det = s.det ∧
    (s.recordHandback c).ctl = s.ctl ∧ (s.recordHandback c).dp = s.dp ∧ (s.recordHandback c).en = s.en ∧
    (s.recordHandback c).su = s.su ∧ (s.recordHandback c).line = s.line ∧
    (s.recordHandback c).cap = s.cap ∧ (s.recordHandback c).fm = s.fm ∧
    (s.recordHandback c).port = s.port ∧ (s.recordHandback c).inst = s.inst ∧
    (s.recordHandback c).draws = s.draws ∧ (s.recordHandback c).pending = s.pending := by
  simp only [State.recordHandback]
  (repeat' split) <;> simp

@[simp] theorem State.beginHandback_frame (s : State) (c : Cause) :
    (s.beginHandback c).held = s.held ∧ (s.beginHandback c).tb = s.tb ∧ (s.beginHandback c).fm = s.fm ∧
    (s.beginHandback c).draws = s.draws ∧ (s.beginHandback c).pending = s.pending := by
  simp only [State.beginHandback]
  (repeat' split) <;> simp

@[simp] theorem State.takeCause_frame (s : State) (c : Cause) :
    (s.takeCause c).held = s.held ∧ (s.takeCause c).tb = s.tb ∧ (s.takeCause c).fm = s.fm ∧
    (s.takeCause c).draws = s.draws ∧ (s.takeCause c).pending = s.pending := by
  simp only [State.takeCause]
  (repeat' split) <;> simp

@[simp] theorem State.recordFault_frame (s : State) (k : FaultKind) (p : Option Phase) (d : Option Nat) :
    (s.recordFault k p d).held = s.held ∧ (s.recordFault k p d).tb = s.tb ∧
    (s.recordFault k p d).tmpl = s.tmpl ∧ (s.recordFault k p d).det = s.det ∧
    (s.recordFault k p d).ctl = s.ctl ∧ (s.recordFault k p d).dp = s.dp ∧
    (s.recordFault k p d).en = s.en ∧ (s.recordFault k p d).su = s.su ∧
    (s.recordFault k p d).line = s.line ∧ (s.recordFault k p d).ep = s.ep ∧
    (s.recordFault k p d).inst = s.inst ∧ (s.recordFault k p d).draws = s.draws ∧
    (s.recordFault k p d).pending = s.pending := by
  simp only [State.recordFault]
  (repeat' split) <;> simp

@[simp] theorem State.tripBypass_frame (s : State) (k : FaultKind) :
    (s.tripBypass k).held = s.held ∧ (s.tripBypass k).tb = s.tb ∧ (s.tripBypass k).tmpl = s.tmpl ∧
    (s.tripBypass k).det = s.det ∧ (s.tripBypass k).en = s.en ∧ (s.tripBypass k).su = s.su ∧
    (s.tripBypass k).line = s.line ∧ (s.tripBypass k).ep = s.ep ∧ (s.tripBypass k).cap = s.cap ∧
    (s.tripBypass k).fm = s.fm ∧ (s.tripBypass k).port = s.port ∧ (s.tripBypass k).draws = s.draws ∧
    (s.tripBypass k).pending = s.pending := by
  simp only [State.tripBypass]
  (repeat' split) <;> simp

@[simp] theorem State.abortRecord_frame (s : State) (k : FaultKind) :
    (s.abortRecord k).held = s.held ∧ (s.abortRecord k).tb = s.tb ∧ (s.abortRecord k).tmpl = s.tmpl ∧
    (s.abortRecord k).det = s.det ∧ (s.abortRecord k).ctl = s.ctl ∧ (s.abortRecord k).dp = s.dp ∧
    (s.abortRecord k).en = s.en ∧ (s.abortRecord k).su = s.su ∧ (s.abortRecord k).line = s.line ∧
    (s.abortRecord k).cap = s.cap ∧ (s.abortRecord k).fm = s.fm ∧ (s.abortRecord k).inst = s.inst ∧
    (s.abortRecord k).draws = s.draws ∧ (s.abortRecord k).pending = s.pending := by
  simp only [State.abortRecord]
  (repeat' split) <;> simp

@[simp] theorem State.lockoutQueue_frame (s : State) (sends : Bool) :
    (s.lockoutQueue sends).held = s.held ∧ (s.lockoutQueue sends).tb = s.tb ∧
    (s.lockoutQueue sends).tmpl = s.tmpl ∧ (s.lockoutQueue sends).det = s.det ∧
    (s.lockoutQueue sends).ctl = s.ctl ∧ (s.lockoutQueue sends).dp = s.dp ∧
    (s.lockoutQueue sends).en = s.en ∧ (s.lockoutQueue sends).su = s.su ∧
    (s.lockoutQueue sends).ep = s.ep ∧ (s.lockoutQueue sends).cap = s.cap ∧
    (s.lockoutQueue sends).fm = s.fm ∧ (s.lockoutQueue sends).port = s.port ∧
    (s.lockoutQueue sends).inst = s.inst ∧ (s.lockoutQueue sends).draws = s.draws ∧
    (s.lockoutQueue sends).pending = s.pending := by
  simp only [State.lockoutQueue]
  (repeat' split) <;> simp

@[simp] theorem State.enterLockout_frame (s : State) (k : FaultKind) :
    (s.enterLockout k).held = s.held ∧ (s.enterLockout k).tb = s.tb ∧ (s.enterLockout k).tmpl = s.tmpl ∧
    (s.enterLockout k).cap = s.cap ∧ (s.enterLockout k).fm = s.fm ∧ (s.enterLockout k).draws = s.draws ∧
    (s.enterLockout k).pending = s.pending := by
  simp only [State.enterLockout]
  (repeat' split) <;> simp

@[simp] theorem State.trip_frame (s : State) (k : FaultKind) :
    (s.trip k).held = s.held ∧ (s.trip k).tb = s.tb ∧ (s.trip k).tmpl = s.tmpl ∧ (s.trip k).cap = s.cap ∧
    (s.trip k).fm = s.fm ∧ (s.trip k).draws = s.draws ∧ (s.trip k).pending = s.pending := by
  simp only [State.trip]
  (repeat' split) <;> simp

@[simp] theorem State.report_frame (s : State) (k : FaultKind) (p : Option Phase) (d : Option Nat) :
    (s.report k p d).held = s.held ∧ (s.report k p d).tb = s.tb ∧ (s.report k p d).tmpl = s.tmpl ∧
    (s.report k p d).draws = s.draws ∧ (s.report k p d).pending = s.pending := by
  simp only [State.report]
  (repeat' split) <;> simp

@[simp] theorem State.countCorrected_frame (s : State) :
    (s.countCorrected).held = s.held ∧ (s.countCorrected).tb = s.tb ∧ (s.countCorrected).tmpl = s.tmpl ∧
    (s.countCorrected).det = s.det ∧ (s.countCorrected).ctl = s.ctl ∧ (s.countCorrected).dp = s.dp ∧
    (s.countCorrected).en = s.en ∧ (s.countCorrected).su = s.su ∧ (s.countCorrected).line = s.line ∧
    (s.countCorrected).ep = s.ep ∧ (s.countCorrected).cap = s.cap ∧ (s.countCorrected).inst = s.inst ∧
    (s.countCorrected).draws = s.draws ∧ (s.countCorrected).pending = s.pending := by
  simp [State.countCorrected]

@[simp] theorem State.countCorrections_frame (s : State) (n : Nat) :
    (s.countCorrections n).held = s.held ∧ (s.countCorrections n).tb = s.tb ∧
    (s.countCorrections n).tmpl = s.tmpl ∧ (s.countCorrections n).det = s.det ∧
    (s.countCorrections n).ctl = s.ctl ∧ (s.countCorrections n).dp = s.dp ∧
    (s.countCorrections n).en = s.en ∧ (s.countCorrections n).su = s.su ∧
    (s.countCorrections n).line = s.line ∧ (s.countCorrections n).ep = s.ep ∧
    (s.countCorrections n).cap = s.cap ∧ (s.countCorrections n).inst = s.inst ∧
    (s.countCorrections n).draws = s.draws ∧ (s.countCorrections n).pending = s.pending := by
  induction n generalizing s with
  | zero => simp [State.countCorrections]
  | succ n ih => simp [State.countCorrections, ih]

@[simp] theorem State.templateFault_frame (s : State) (p : Phase) :
    (s.templateFault p).held = s.held ∧ (s.templateFault p).tb = s.tb ∧
    (s.templateFault p).draws = s.draws ∧ (s.templateFault p).pending = s.pending := by
  simp [State.templateFault]

@[simp] theorem State.openEpisode_frame (s : State) (o : Onset) :
    (s.openEpisode o).held = s.held ∧ (s.openEpisode o).tb = s.tb ∧ (s.openEpisode o).fm = s.fm ∧
    (s.openEpisode o).draws = s.draws ∧ (s.openEpisode o).pending = s.pending := by
  simp only [State.openEpisode]
  (repeat' split) <;> simp

@[simp] theorem State.takeOnset_frame (s : State) (o : Onset) :
    (s.takeOnset o).held = s.held ∧ (s.takeOnset o).tb = s.tb ∧ (s.takeOnset o).fm = s.fm ∧
    (s.takeOnset o).draws = s.draws ∧ (s.takeOnset o).pending = s.pending := by
  simp only [State.takeOnset]
  (repeat' split) <;> simp

end Sys2Proof.Machine
end

