-- ==== Sys2Proof/Laws/BlockFrames.lean ====
section
/-! SUPPORT. What each operation of a block, and each part of a sample event and of a boundary, leaves unchanged. -/

namespace Sys2Proof.Machine

@[simp] theorem State.changeLock_frame (s : State) (l : LockState) :
    (s.changeLock l).held = s.held ∧ (s.changeLock l).tmpl = s.tmpl ∧ (s.changeLock l).det = s.det ∧
    (s.changeLock l).ctl = s.ctl ∧ (s.changeLock l).dp = s.dp ∧ (s.changeLock l).en = s.en ∧
    (s.changeLock l).su = s.su ∧ (s.changeLock l).line = s.line ∧ (s.changeLock l).ep = s.ep ∧
    (s.changeLock l).cap = s.cap ∧ (s.changeLock l).fm = s.fm ∧ (s.changeLock l).inst = s.inst ∧
    (s.changeLock l).draws = s.draws ∧ (s.changeLock l).pending = s.pending := by
  simp [State.changeLock]

@[simp] theorem State.searchCrossing_frame (s : State) (x : Stamp) :
    (s.searchCrossing x).held = s.held ∧ (s.searchCrossing x).tmpl = s.tmpl ∧
    (s.searchCrossing x).det = s.det ∧ (s.searchCrossing x).ctl = s.ctl ∧
    (s.searchCrossing x).dp = s.dp ∧ (s.searchCrossing x).en = s.en ∧ (s.searchCrossing x).su = s.su ∧
    (s.searchCrossing x).line = s.line ∧ (s.searchCrossing x).ep = s.ep ∧
    (s.searchCrossing x).cap = s.cap ∧ (s.searchCrossing x).fm = s.fm ∧
    (s.searchCrossing x).inst = s.inst ∧ (s.searchCrossing x).draws = s.draws ∧
    (s.searchCrossing x).pending = s.pending := by
  simp only [State.searchCrossing]
  (repeat' split) <;> simp

@[simp] theorem State.trim_frame (s : State) (x : Stamp) :
    (s.trim x).held = s.held ∧ (s.trim x).tmpl = s.tmpl ∧ (s.trim x).det = s.det ∧
    (s.trim x).ctl = s.ctl ∧ (s.trim x).dp = s.dp ∧ (s.trim x).en = s.en ∧ (s.trim x).su = s.su ∧
    (s.trim x).line = s.line ∧ (s.trim x).ep = s.ep ∧ (s.trim x).cap = s.cap ∧ (s.trim x).fm = s.fm ∧
    (s.trim x).port = s.port ∧ (s.trim x).inst = s.inst ∧ (s.trim x).draws = s.draws ∧
    (s.trim x).pending = s.pending := by
  simp only [State.trim]
  (repeat' split) <;> simp

@[simp] theorem State.enterCoast_frame (s : State) :
    (s.enterCoast).held = s.held ∧ (s.enterCoast).tmpl = s.tmpl ∧ (s.enterCoast).det = s.det ∧
    (s.enterCoast).ctl = s.ctl ∧ (s.enterCoast).dp = s.dp ∧ (s.enterCoast).en = s.en ∧
    (s.enterCoast).su = s.su ∧ (s.enterCoast).line = s.line ∧ (s.enterCoast).ep = s.ep ∧
    (s.enterCoast).fm = s.fm ∧ (s.enterCoast).inst = s.inst ∧ (s.enterCoast).draws = s.draws ∧
    (s.enterCoast).pending = s.pending := by
  simp [State.enterCoast]

@[simp] theorem State.passWindow_frame (s : State) :
    (s.passWindow).held = s.held ∧ (s.passWindow).tmpl = s.tmpl ∧ (s.passWindow).det = s.det ∧
    (s.passWindow).ctl = s.ctl ∧ (s.passWindow).dp = s.dp ∧ (s.passWindow).en = s.en ∧
    (s.passWindow).su = s.su ∧ (s.passWindow).line = s.line ∧ (s.passWindow).ep = s.ep ∧
    (s.passWindow).cap = s.cap ∧ (s.passWindow).fm = s.fm ∧ (s.passWindow).port = s.port ∧
    (s.passWindow).inst = s.inst ∧ (s.passWindow).draws = s.draws ∧ (s.passWindow).pending = s.pending := by
  simp only [State.passWindow]
  split <;> simp

@[simp] theorem State.lockedCrossing_frame (s : State) (x : Stamp) :
    (s.lockedCrossing x).held = s.held ∧ (s.lockedCrossing x).tmpl = s.tmpl ∧
    (s.lockedCrossing x).det = s.det ∧ (s.lockedCrossing x).ctl = s.ctl ∧
    (s.lockedCrossing x).dp = s.dp ∧ (s.lockedCrossing x).en = s.en ∧ (s.lockedCrossing x).su = s.su ∧
    (s.lockedCrossing x).line = s.line ∧ (s.lockedCrossing x).ep = s.ep ∧
    (s.lockedCrossing x).fm = s.fm ∧ (s.lockedCrossing x).inst = s.inst ∧
    (s.lockedCrossing x).draws = s.draws ∧ (s.lockedCrossing x).pending = s.pending := by
  simp only [State.lockedCrossing]
  (repeat' split) <;> simp

@[simp] theorem State.coastCrossing_frame (s : State) (x : Stamp) :
    (s.coastCrossing x).held = s.held ∧ (s.coastCrossing x).tmpl = s.tmpl ∧
    (s.coastCrossing x).det = s.det ∧ (s.coastCrossing x).ctl = s.ctl ∧ (s.coastCrossing x).dp = s.dp ∧
    (s.coastCrossing x).en = s.en ∧ (s.coastCrossing x).su = s.su ∧ (s.coastCrossing x).line = s.line ∧
    (s.coastCrossing x).ep = s.ep ∧ (s.coastCrossing x).cap = s.cap ∧ (s.coastCrossing x).fm = s.fm ∧
    (s.coastCrossing x).inst = s.inst ∧ (s.coastCrossing x).draws = s.draws ∧
    (s.coastCrossing x).pending = s.pending := by
  simp only [State.coastCrossing]
  (repeat' split) <;> simp

@[simp] theorem State.takeCrossing_frame (s : State) (x : Stamp) :
    (s.takeCrossing x).held = s.held ∧ (s.takeCrossing x).tmpl = s.tmpl ∧
    (s.takeCrossing x).det = s.det ∧ (s.takeCrossing x).ctl = s.ctl ∧ (s.takeCrossing x).dp = s.dp ∧
    (s.takeCrossing x).en = s.en ∧ (s.takeCrossing x).su = s.su ∧ (s.takeCrossing x).line = s.line ∧
    (s.takeCrossing x).ep = s.ep ∧ (s.takeCrossing x).fm = s.fm ∧ (s.takeCrossing x).inst = s.inst ∧
    (s.takeCrossing x).draws = s.draws ∧ (s.takeCrossing x).pending = s.pending := by
  simp only [State.takeCrossing]
  (repeat' split) <;> simp

@[simp] theorem State.testWindow_frame (s : State) :
    (s.testWindow).held = s.held ∧ (s.testWindow).tmpl = s.tmpl ∧ (s.testWindow).det = s.det ∧
    (s.testWindow).ctl = s.ctl ∧ (s.testWindow).dp = s.dp ∧ (s.testWindow).en = s.en ∧
    (s.testWindow).su = s.su ∧ (s.testWindow).line = s.line ∧ (s.testWindow).ep = s.ep ∧
    (s.testWindow).fm = s.fm ∧ (s.testWindow).inst = s.inst ∧ (s.testWindow).draws = s.draws ∧
    (s.testWindow).pending = s.pending := by
  simp only [State.testWindow]
  (repeat' split) <;> simp

@[simp] theorem State.lockSample_frame (s : State) :
    (s.lockSample).held = s.held ∧ (s.lockSample).tmpl = s.tmpl ∧ (s.lockSample).det = s.det ∧
    (s.lockSample).ctl = s.ctl ∧ (s.lockSample).dp = s.dp ∧ (s.lockSample).en = s.en ∧
    (s.lockSample).su = s.su ∧ (s.lockSample).line = s.line ∧ (s.lockSample).ep = s.ep ∧
    (s.lockSample).fm = s.fm ∧ (s.lockSample).inst = s.inst ∧ (s.lockSample).draws = s.draws ∧
    (s.lockSample).pending = s.pending := by
  simp only [State.lockSample]
  (repeat' split) <;> simp

@[simp] theorem State.enterSearch_frame (s : State) :
    (s.enterSearch).held = s.held ∧ (s.enterSearch).fm = s.fm ∧ (s.enterSearch).draws = s.draws ∧
    (s.enterSearch).pending = s.pending := by
  simp [State.enterSearch]

@[simp] theorem State.lockBoundary_frame (s : State) :
    (s.lockBoundary).held = s.held ∧ (s.lockBoundary).fm = s.fm ∧ (s.lockBoundary).draws = s.draws ∧
    (s.lockBoundary).pending = s.pending := by
  simp only [State.lockBoundary]
  (repeat' split) <;> simp

@[simp] theorem State.strikeTemplate_frame (s : State) (ups : List TemplateUpset) :
    (s.strikeTemplate ups).held = s.held ∧ (s.strikeTemplate ups).tb = s.tb ∧
    (s.strikeTemplate ups).det = s.det ∧ (s.strikeTemplate ups).ctl = s.ctl ∧
    (s.strikeTemplate ups).dp = s.dp ∧ (s.strikeTemplate ups).en = s.en ∧
    (s.strikeTemplate ups).su = s.su ∧ (s.strikeTemplate ups).line = s.line ∧
    (s.strikeTemplate ups).ep = s.ep ∧ (s.strikeTemplate ups).cap = s.cap ∧
    (s.strikeTemplate ups).fm = s.fm ∧ (s.strikeTemplate ups).port = s.port ∧
    (s.strikeTemplate ups).inst = s.inst ∧ (s.strikeTemplate ups).draws = s.draws ∧
    (s.strikeTemplate ups).pending = s.pending := by
  simp [State.strikeTemplate]

@[simp] theorem State.becomeValid_frame (s : State) :
    (s.becomeValid).held = s.held ∧ (s.becomeValid).tb = s.tb ∧ (s.becomeValid).tmpl = s.tmpl ∧
    (s.becomeValid).ep = s.ep ∧ (s.becomeValid).cap = s.cap ∧ (s.becomeValid).fm = s.fm ∧
    (s.becomeValid).port = s.port ∧ (s.becomeValid).inst = s.inst ∧ (s.becomeValid).draws = s.draws ∧
    (s.becomeValid).pending = s.pending := by
  simp [State.becomeValid]

@[simp] theorem State.appendCycle_frame (s : State) :
    (s.appendCycle).held = s.held ∧ (s.appendCycle).tb = s.tb ∧ (s.appendCycle).draws = s.draws ∧
    (s.appendCycle).pending = s.pending := by
  simp only [State.appendCycle]
  (repeat' split) <;> simp

@[simp] theorem State.templateBoundary_frame (s : State) (h : Bool) (lx : PerPhase Nat) :
    (s.templateBoundary h lx).held = s.held ∧ (s.templateBoundary h lx).tb = s.tb ∧
    (s.templateBoundary h lx).draws = s.draws ∧ (s.templateBoundary h lx).pending = s.pending := by
  simp only [State.templateBoundary]
  (repeat' split) <;> simp

@[simp] theorem State.takeDeviation_frame (s : State) (v : PerPhase Int) :
    (s.takeDeviation v).held = s.held ∧ (s.takeDeviation v).tb = s.tb ∧ (s.takeDeviation v).ctl = s.ctl ∧
    (s.takeDeviation v).dp = s.dp ∧ (s.takeDeviation v).en = s.en ∧ (s.takeDeviation v).su = s.su ∧
    (s.takeDeviation v).line = s.line ∧ (s.takeDeviation v).ep = s.ep ∧ (s.takeDeviation v).cap = s.cap ∧
    (s.takeDeviation v).fm = s.fm ∧ (s.takeDeviation v).port = s.port ∧
    (s.takeDeviation v).inst = s.inst ∧ (s.takeDeviation v).draws = s.draws ∧
    (s.takeDeviation v).pending = s.pending := by
  simp [State.takeDeviation]

@[simp] theorem State.takeMetric_frame (s : State) (r : SampleRead) :
    (s.takeMetric r).held = s.held ∧ (s.takeMetric r).tb = s.tb ∧ (s.takeMetric r).ctl = s.ctl ∧
    (s.takeMetric r).dp = s.dp ∧ (s.takeMetric r).en = s.en ∧ (s.takeMetric r).su = s.su ∧
    (s.takeMetric r).line = s.line ∧ (s.takeMetric r).ep = s.ep ∧ (s.takeMetric r).cap = s.cap ∧
    (s.takeMetric r).fm = s.fm ∧ (s.takeMetric r).port = s.port ∧ (s.takeMetric r).inst = s.inst ∧
    (s.takeMetric r).draws = s.draws ∧ (s.takeMetric r).pending = s.pending := by
  simp only [State.takeMetric]
  (repeat' split) <;> simp

@[simp] theorem State.testOnset_frame (s : State) :
    (s.testOnset).held = s.held ∧ (s.testOnset).tb = s.tb ∧ (s.testOnset).fm = s.fm ∧
    (s.testOnset).draws = s.draws ∧ (s.testOnset).pending = s.pending := by
  simp only [State.testOnset]
  (repeat' split) <;> simp

@[simp] theorem State.onsetNotice_frame (s : State) :
    (s.onsetNotice).held = s.held ∧ (s.onsetNotice).tb = s.tb ∧ (s.onsetNotice).fm = s.fm ∧
    (s.onsetNotice).draws = s.draws ∧ (s.onsetNotice).pending = s.pending := by
  simp only [State.onsetNotice]
  (repeat' split) <;> simp

@[simp] theorem State.restoreNotice_frame (s : State) :
    (s.restoreNotice).held = s.held ∧ (s.restoreNotice).tb = s.tb ∧ (s.restoreNotice).tmpl = s.tmpl ∧
    (s.restoreNotice).ctl = s.ctl ∧ (s.restoreNotice).dp = s.dp ∧ (s.restoreNotice).en = s.en ∧
    (s.restoreNotice).su = s.su ∧ (s.restoreNotice).line = s.line ∧ (s.restoreNotice).ep = s.ep ∧
    (s.restoreNotice).cap = s.cap ∧ (s.restoreNotice).fm = s.fm ∧ (s.restoreNotice).port = s.port ∧
    (s.restoreNotice).inst = s.inst ∧ (s.restoreNotice).draws = s.draws ∧
    (s.restoreNotice).pending = s.pending := by
  simp only [State.restoreNotice]
  (repeat' split) <;> simp

@[simp] theorem State.detectorBoundary_frame (s : State) (q : Bool) :
    (s.detectorBoundary q).held = s.held ∧ (s.detectorBoundary q).tb = s.tb ∧
    (s.detectorBoundary q).fm = s.fm ∧ (s.detectorBoundary q).draws = s.draws ∧
    (s.detectorBoundary q).pending = s.pending := by
  simp only [State.detectorBoundary]
  (repeat' split) <;> simp

@[simp] theorem State.takeReonset_frame (s : State) :
    (s.takeReonset).held = s.held ∧ (s.takeReonset).tb = s.tb ∧ (s.takeReonset).fm = s.fm ∧
    (s.takeReonset).draws = s.draws ∧ (s.takeReonset).pending = s.pending := by
  simp only [State.takeReonset]
  (repeat' split) <;> simp

@[simp] theorem State.confirmClose_frame (s : State) :
    (s.confirmClose).held = s.held ∧ (s.confirmClose).tb = s.tb ∧ (s.confirmClose).fm = s.fm ∧
    (s.confirmClose).draws = s.draws ∧ (s.confirmClose).pending = s.pending := by
  simp only [State.confirmClose]
  (repeat' split) <;> simp

@[simp] theorem State.testOpening_frame (s : State) :
    (s.testOpening).held = s.held ∧ (s.testOpening).tb = s.tb ∧ (s.testOpening).tmpl = s.tmpl ∧
    (s.testOpening).draws = s.draws ∧ (s.testOpening).pending = s.pending := by
  simp only [State.testOpening]
  (repeat' split) <;> simp

@[simp] theorem State.reportCloseFail_frame (s : State) :
    (s.reportCloseFail).held = s.held ∧ (s.reportCloseFail).tb = s.tb ∧
    (s.reportCloseFail).tmpl = s.tmpl ∧ (s.reportCloseFail).draws = s.draws ∧
    (s.reportCloseFail).pending = s.pending := by
  simp [State.reportCloseFail]

@[simp] theorem State.testClosing_frame (s : State) :
    (s.testClosing).held = s.held ∧ (s.testClosing).tb = s.tb ∧ (s.testClosing).draws = s.draws ∧
    (s.testClosing).pending = s.pending := by
  simp only [State.testClosing]
  (repeat' split) <;> simp

@[simp] theorem State.reportUncommanded_frame (s : State) :
    (s.reportUncommanded).held = s.held ∧ (s.reportUncommanded).tb = s.tb ∧
    (s.reportUncommanded).tmpl = s.tmpl ∧ (s.reportUncommanded).draws = s.draws ∧
    (s.reportUncommanded).pending = s.pending := by
  simp [State.reportUncommanded]

@[simp] theorem State.testClosed_frame (s : State) :
    (s.testClosed).held = s.held ∧ (s.testClosed).tb = s.tb ∧ (s.testClosed).tmpl = s.tmpl ∧
    (s.testClosed).draws = s.draws ∧ (s.testClosed).pending = s.pending := by
  simp only [State.testClosed]
  (repeat' split) <;> simp

@[simp] theorem State.countSample_frame (s : State) :
    (s.countSample).held = s.held ∧ (s.countSample).tb = s.tb ∧ (s.countSample).tmpl = s.tmpl ∧
    (s.countSample).det = s.det ∧ (s.countSample).dp = s.dp ∧ (s.countSample).en = s.en ∧
    (s.countSample).su = s.su ∧ (s.countSample).line = s.line ∧ (s.countSample).ep = s.ep ∧
    (s.countSample).cap = s.cap ∧ (s.countSample).fm = s.fm ∧ (s.countSample).port = s.port ∧
    (s.countSample).inst = s.inst ∧ (s.countSample).draws = s.draws ∧ (s.countSample).pending = s.pending := by
  simp [State.countSample]

@[simp] theorem State.testFeedback_frame (s : State) (w : Bool) :
    (s.testFeedback w).held = s.held ∧ (s.testFeedback w).tb = s.tb ∧
    (s.testFeedback w).draws = s.draws ∧ (s.testFeedback w).pending = s.pending := by
  simp only [State.testFeedback]
  (repeat' split) <;> simp

@[simp] theorem State.writeCommands_frame (s : State) (c : PerPhase Int) :
    (s.writeCommands c).held = s.held ∧ (s.writeCommands c).tb = s.tb ∧
    (s.writeCommands c).tmpl = s.tmpl ∧ (s.writeCommands c).det = s.det ∧
    (s.writeCommands c).ctl = s.ctl ∧ (s.writeCommands c).dp = s.dp ∧ (s.writeCommands c).en = s.en ∧
    (s.writeCommands c).su = s.su ∧ (s.writeCommands c).line = s.line ∧ (s.writeCommands c).ep = s.ep ∧
    (s.writeCommands c).fm = s.fm ∧ (s.writeCommands c).port = s.port ∧
    (s.writeCommands c).inst = s.inst ∧ (s.writeCommands c).draws = s.draws ∧
    (s.writeCommands c).pending = s.pending := by
  simp [State.writeCommands]

@[simp] theorem State.putCommand_frame (s : State) (c : PerPhase Int) :
    (s.putCommand c).held = s.held ∧ (s.putCommand c).tb = s.tb ∧ (s.putCommand c).tmpl = s.tmpl ∧
    (s.putCommand c).det = s.det ∧ (s.putCommand c).ctl = s.ctl ∧ (s.putCommand c).en = s.en ∧
    (s.putCommand c).su = s.su ∧ (s.putCommand c).line = s.line ∧ (s.putCommand c).ep = s.ep ∧
    (s.putCommand c).fm = s.fm ∧ (s.putCommand c).port = s.port ∧ (s.putCommand c).inst = s.inst ∧
    (s.putCommand c).draws = s.draws ∧ (s.putCommand c).pending = s.pending := by
  simp [State.putCommand]

@[simp] theorem State.runChain_frame (s : State) (r : SampleRead) :
    (s.runChain r).held = s.held ∧ (s.runChain r).tb = s.tb ∧ (s.runChain r).tmpl = s.tmpl ∧
    (s.runChain r).det = s.det ∧ (s.runChain r).ctl = s.ctl ∧ (s.runChain r).en = s.en ∧
    (s.runChain r).su = s.su ∧ (s.runChain r).line = s.line ∧ (s.runChain r).ep = s.ep ∧
    (s.runChain r).fm = s.fm ∧ (s.runChain r).port = s.port ∧ (s.runChain r).inst = s.inst ∧
    (s.runChain r).draws = s.draws ∧ (s.runChain r).pending = s.pending := by
  simp only [State.runChain]
  (repeat' split) <;> simp

@[simp] theorem State.testOvercurrent_frame (s : State) :
    (s.testOvercurrent).held = s.held ∧ (s.testOvercurrent).tb = s.tb ∧
    (s.testOvercurrent).tmpl = s.tmpl ∧ (s.testOvercurrent).draws = s.draws ∧
    (s.testOvercurrent).pending = s.pending := by
  simp only [State.testOvercurrent]
  (repeat' split) <;> simp

@[simp] theorem State.takeCredit_frame (s : State) :
    (s.takeCredit).held = s.held ∧ (s.takeCredit).tb = s.tb ∧ (s.takeCredit).tmpl = s.tmpl ∧
    (s.takeCredit).det = s.det ∧ (s.takeCredit).ctl = s.ctl ∧ (s.takeCredit).dp = s.dp ∧
    (s.takeCredit).su = s.su ∧ (s.takeCredit).line = s.line ∧ (s.takeCredit).ep = s.ep ∧
    (s.takeCredit).cap = s.cap ∧ (s.takeCredit).fm = s.fm ∧ (s.takeCredit).port = s.port ∧
    (s.takeCredit).inst = s.inst ∧ (s.takeCredit).draws = s.draws ∧ (s.takeCredit).pending = s.pending := by
  simp only [State.takeCredit]
  (repeat' split) <;> simp

@[simp] theorem State.testOvervoltage_frame (s : State) :
    (s.testOvervoltage).held = s.held ∧ (s.testOvervoltage).tb = s.tb ∧
    (s.testOvervoltage).tmpl = s.tmpl ∧ (s.testOvervoltage).draws = s.draws ∧
    (s.testOvervoltage).pending = s.pending := by
  simp only [State.testOvervoltage]
  (repeat' split) <;> simp

@[simp] theorem State.takeLink_frame (s : State) :
    (s.takeLink).held = s.held ∧ (s.takeLink).tb = s.tb ∧ (s.takeLink).tmpl = s.tmpl ∧
    (s.takeLink).draws = s.draws ∧ (s.takeLink).pending = s.pending := by
  simp [State.takeLink]

@[simp] theorem State.planInjecting_frame (s : State) (n : Stamp) (lx : PerPhase Nat) (v : Nat) :
    (s.planInjecting n lx v).held = s.held ∧ (s.planInjecting n lx v).tb = s.tb ∧
    (s.planInjecting n lx v).fm = s.fm ∧ (s.planInjecting n lx v).draws = s.draws ∧
    (s.planInjecting n lx v).pending = s.pending := by
  simp only [State.planInjecting]
  (repeat' split) <;> simp

@[simp] theorem State.plannerBoundary_frame (s : State) (n : Stamp) (lx : PerPhase Nat) (v : Nat) :
    (s.plannerBoundary n lx v).held = s.held ∧ (s.plannerBoundary n lx v).tb = s.tb ∧
    (s.plannerBoundary n lx v).fm = s.fm ∧ (s.plannerBoundary n lx v).draws = s.draws ∧
    (s.plannerBoundary n lx v).pending = s.pending := by
  simp only [State.plannerBoundary]
  (repeat' split) <;> simp

@[simp] theorem State.peerEvents_frame (s : State) (u v : PeerEntry) :
    (s.peerEvents u v).held = s.held ∧ (s.peerEvents u v).tb = s.tb ∧ (s.peerEvents u v).tmpl = s.tmpl ∧
    (s.peerEvents u v).det = s.det ∧ (s.peerEvents u v).ctl = s.ctl ∧ (s.peerEvents u v).dp = s.dp ∧
    (s.peerEvents u v).en = s.en ∧ (s.peerEvents u v).su = s.su ∧ (s.peerEvents u v).line = s.line ∧
    (s.peerEvents u v).ep = s.ep ∧ (s.peerEvents u v).cap = s.cap ∧ (s.peerEvents u v).fm = s.fm ∧
    (s.peerEvents u v).inst = s.inst ∧ (s.peerEvents u v).draws = s.draws ∧
    (s.peerEvents u v).pending = s.pending := by
  simp only [State.peerEvents]
  (repeat' split) <;> simp

@[simp] theorem State.setEntry_frame (s : State) (k : Nat) (e : PeerEntry) :
    (s.setEntry k e).held = s.held ∧ (s.setEntry k e).tb = s.tb ∧ (s.setEntry k e).tmpl = s.tmpl ∧
    (s.setEntry k e).det = s.det ∧ (s.setEntry k e).ctl = s.ctl ∧ (s.setEntry k e).dp = s.dp ∧
    (s.setEntry k e).en = s.en ∧ (s.setEntry k e).line = s.line ∧ (s.setEntry k e).ep = s.ep ∧
    (s.setEntry k e).cap = s.cap ∧ (s.setEntry k e).fm = s.fm ∧ (s.setEntry k e).port = s.port ∧
    (s.setEntry k e).inst = s.inst ∧ (s.setEntry k e).draws = s.draws ∧
    (s.setEntry k e).pending = s.pending := by
  simp [State.setEntry]

@[simp] theorem State.endIsolation_frame (s : State) :
    (s.endIsolation).held = s.held ∧ (s.endIsolation).tb = s.tb ∧ (s.endIsolation).tmpl = s.tmpl ∧
    (s.endIsolation).det = s.det ∧ (s.endIsolation).ctl = s.ctl ∧ (s.endIsolation).dp = s.dp ∧
    (s.endIsolation).en = s.en ∧ (s.endIsolation).line = s.line ∧ (s.endIsolation).ep = s.ep ∧
    (s.endIsolation).cap = s.cap ∧ (s.endIsolation).fm = s.fm ∧ (s.endIsolation).inst = s.inst ∧
    (s.endIsolation).draws = s.draws ∧ (s.endIsolation).pending = s.pending := by
  simp only [State.endIsolation]
  (repeat' split) <;> simp

@[simp] theorem State.giveNotice_frame (s : State) (c : FrameClass) (k : Nat) :
    (s.giveNotice c k).held = s.held ∧ (s.giveNotice c k).tb = s.tb ∧ (s.giveNotice c k).fm = s.fm ∧
    (s.giveNotice c k).draws = s.draws ∧ (s.giveNotice c k).pending = s.pending := by
  simp only [State.giveNotice]
  (repeat' split) <;> simp

@[simp] theorem State.takeFrame_frame (s : State) (f : Frame) :
    (s.takeFrame f).held = s.held ∧ (s.takeFrame f).tb = s.tb ∧ (s.takeFrame f).fm = s.fm ∧
    (s.takeFrame f).draws = s.draws ∧ (s.takeFrame f).pending = s.pending := by
  simp only [State.takeFrame]
  (repeat' split) <;> simp

@[simp] theorem State.loseEntry_frame (s : State) (k : Nat) :
    (s.loseEntry k).held = s.held ∧ (s.loseEntry k).tb = s.tb ∧ (s.loseEntry k).tmpl = s.tmpl ∧
    (s.loseEntry k).det = s.det ∧ (s.loseEntry k).ctl = s.ctl ∧ (s.loseEntry k).dp = s.dp ∧
    (s.loseEntry k).en = s.en ∧ (s.loseEntry k).line = s.line ∧ (s.loseEntry k).ep = s.ep ∧
    (s.loseEntry k).fm = s.fm ∧ (s.loseEntry k).inst = s.inst ∧ (s.loseEntry k).draws = s.draws ∧
    (s.loseEntry k).pending = s.pending := by
  simp [State.loseEntry]

@[simp] theorem State.ageEntry_frame (s : State) (k : Nat) :
    (s.ageEntry k).held = s.held ∧ (s.ageEntry k).tb = s.tb ∧ (s.ageEntry k).tmpl = s.tmpl ∧
    (s.ageEntry k).det = s.det ∧ (s.ageEntry k).ctl = s.ctl ∧ (s.ageEntry k).dp = s.dp ∧
    (s.ageEntry k).en = s.en ∧ (s.ageEntry k).line = s.line ∧ (s.ageEntry k).ep = s.ep ∧
    (s.ageEntry k).fm = s.fm ∧ (s.ageEntry k).inst = s.inst ∧ (s.ageEntry k).draws = s.draws ∧
    (s.ageEntry k).pending = s.pending := by
  simp only [State.ageEntry]
  (repeat' split) <;> simp

@[simp] theorem State.agePeers_frame (s : State) :
    (s.agePeers).held = s.held ∧ (s.agePeers).tb = s.tb ∧ (s.agePeers).tmpl = s.tmpl ∧
    (s.agePeers).det = s.det ∧ (s.agePeers).ctl = s.ctl ∧ (s.agePeers).dp = s.dp ∧
    (s.agePeers).en = s.en ∧ (s.agePeers).line = s.line ∧ (s.agePeers).ep = s.ep ∧
    (s.agePeers).fm = s.fm ∧ (s.agePeers).inst = s.inst ∧ (s.agePeers).draws = s.draws ∧
    (s.agePeers).pending = s.pending := by
  simp [State.agePeers, List.range, List.range.loop]

@[simp] theorem State.isolate_frame (s : State) :
    (s.isolate).held = s.held ∧ (s.isolate).tb = s.tb ∧ (s.isolate).tmpl = s.tmpl ∧
    (s.isolate).det = s.det ∧ (s.isolate).ctl = s.ctl ∧ (s.isolate).en = s.en ∧
    (s.isolate).line = s.line ∧ (s.isolate).ep = s.ep ∧ (s.isolate).cap = s.cap ∧ (s.isolate).fm = s.fm ∧
    (s.isolate).inst = s.inst ∧ (s.isolate).draws = s.draws ∧ (s.isolate).pending = s.pending := by
  simp [State.isolate]

@[simp] theorem State.shareAtBoundary_frame (s : State) :
    (s.shareAtBoundary).held = s.held ∧ (s.shareAtBoundary).tb = s.tb ∧
    (s.shareAtBoundary).tmpl = s.tmpl ∧ (s.shareAtBoundary).det = s.det ∧
    (s.shareAtBoundary).ctl = s.ctl ∧ (s.shareAtBoundary).en = s.en ∧ (s.shareAtBoundary).line = s.line ∧
    (s.shareAtBoundary).cap = s.cap ∧ (s.shareAtBoundary).fm = s.fm ∧ (s.shareAtBoundary).port = s.port ∧
    (s.shareAtBoundary).inst = s.inst ∧ (s.shareAtBoundary).draws = s.draws ∧
    (s.shareAtBoundary).pending = s.pending := by
  simp only [State.shareAtBoundary]
  (repeat' split) <;> simp

@[simp] theorem State.testLine_frame (s : State) :
    (s.testLine).held = s.held ∧ (s.testLine).tb = s.tb ∧ (s.testLine).fm = s.fm ∧
    (s.testLine).draws = s.draws ∧ (s.testLine).pending = s.pending := by
  simp only [State.testLine]
  (repeat' split) <;> simp

@[simp] theorem State.shareBoundary_frame (s : State) :
    (s.shareBoundary).held = s.held ∧ (s.shareBoundary).tb = s.tb ∧ (s.shareBoundary).fm = s.fm ∧
    (s.shareBoundary).draws = s.draws ∧ (s.shareBoundary).pending = s.pending := by
  simp only [State.shareBoundary]
  (repeat' split) <;> simp

@[simp] theorem State.beginFrame_frame (s : State) :
    (s.beginFrame).held = s.held ∧ (s.beginFrame).tb = s.tb ∧ (s.beginFrame).tmpl = s.tmpl ∧
    (s.beginFrame).det = s.det ∧ (s.beginFrame).ctl = s.ctl ∧ (s.beginFrame).dp = s.dp ∧
    (s.beginFrame).en = s.en ∧ (s.beginFrame).su = s.su ∧ (s.beginFrame).ep = s.ep ∧
    (s.beginFrame).cap = s.cap ∧ (s.beginFrame).fm = s.fm ∧ (s.beginFrame).port = s.port ∧
    (s.beginFrame).inst = s.inst ∧ (s.beginFrame).draws = s.draws ∧ (s.beginFrame).pending = s.pending := by
  simp only [State.beginFrame]
  (repeat' split) <;> simp

@[simp] theorem State.setTec_frame (s : State) (n : Nat) :
    (s.setTec n).held = s.held ∧ (s.setTec n).tb = s.tb ∧ (s.setTec n).tmpl = s.tmpl ∧
    (s.setTec n).det = s.det ∧ (s.setTec n).ctl = s.ctl ∧ (s.setTec n).dp = s.dp ∧
    (s.setTec n).en = s.en ∧ (s.setTec n).su = s.su ∧ (s.setTec n).ep = s.ep ∧ (s.setTec n).cap = s.cap ∧
    (s.setTec n).fm = s.fm ∧ (s.setTec n).inst = s.inst ∧ (s.setTec n).draws = s.draws ∧
    (s.setTec n).pending = s.pending := by
  simp only [State.setTec]
  (repeat' split) <;> simp

@[simp] theorem State.loseArbitration_frame (s : State) (k : Nat) :
    (s.loseArbitration k).held = s.held ∧ (s.loseArbitration k).tb = s.tb ∧
    (s.loseArbitration k).tmpl = s.tmpl ∧ (s.loseArbitration k).det = s.det ∧
    (s.loseArbitration k).ctl = s.ctl ∧ (s.loseArbitration k).dp = s.dp ∧
    (s.loseArbitration k).en = s.en ∧ (s.loseArbitration k).su = s.su ∧ (s.loseArbitration k).ep = s.ep ∧
    (s.loseArbitration k).cap = s.cap ∧ (s.loseArbitration k).fm = s.fm ∧
    (s.loseArbitration k).port = s.port ∧ (s.loseArbitration k).inst = s.inst ∧
    (s.loseArbitration k).draws = s.draws ∧ (s.loseArbitration k).pending = s.pending := by
  simp only [State.loseArbitration]
  (repeat' split) <;> simp

@[simp] theorem State.bitError_frame (s : State) (k : Nat) :
    (s.bitError k).held = s.held ∧ (s.bitError k).tb = s.tb ∧ (s.bitError k).tmpl = s.tmpl ∧
    (s.bitError k).det = s.det ∧ (s.bitError k).ctl = s.ctl ∧ (s.bitError k).dp = s.dp ∧
    (s.bitError k).en = s.en ∧ (s.bitError k).su = s.su ∧ (s.bitError k).ep = s.ep ∧
    (s.bitError k).cap = s.cap ∧ (s.bitError k).fm = s.fm ∧ (s.bitError k).inst = s.inst ∧
    (s.bitError k).draws = s.draws ∧ (s.bitError k).pending = s.pending := by
  simp only [State.bitError]
  (repeat' split) <;> simp

@[simp] theorem State.completeFrame_frame (s : State) :
    (s.completeFrame).held = s.held ∧ (s.completeFrame).tb = s.tb ∧ (s.completeFrame).tmpl = s.tmpl ∧
    (s.completeFrame).det = s.det ∧ (s.completeFrame).ctl = s.ctl ∧ (s.completeFrame).dp = s.dp ∧
    (s.completeFrame).en = s.en ∧ (s.completeFrame).ep = s.ep ∧ (s.completeFrame).cap = s.cap ∧
    (s.completeFrame).fm = s.fm ∧ (s.completeFrame).inst = s.inst ∧ (s.completeFrame).draws = s.draws ∧
    (s.completeFrame).pending = s.pending := by
  simp only [State.completeFrame]
  (repeat' split) <;> simp

@[simp] theorem State.acceptFrame_frame (s : State) (f : Frame) :
    (s.acceptFrame f).held = s.held ∧ (s.acceptFrame f).tb = s.tb ∧ (s.acceptFrame f).draws = s.draws ∧
    (s.acceptFrame f).pending = s.pending := by
  simp only [State.acceptFrame]
  (repeat' split) <;> simp

@[simp] theorem State.lineIdle_frame (s : State) :
    (s.lineIdle).held = s.held ∧ (s.lineIdle).tb = s.tb ∧ (s.lineIdle).tmpl = s.tmpl ∧
    (s.lineIdle).det = s.det ∧ (s.lineIdle).ctl = s.ctl ∧ (s.lineIdle).dp = s.dp ∧
    (s.lineIdle).en = s.en ∧ (s.lineIdle).su = s.su ∧ (s.lineIdle).ep = s.ep ∧ (s.lineIdle).cap = s.cap ∧
    (s.lineIdle).fm = s.fm ∧ (s.lineIdle).port = s.port ∧ (s.lineIdle).inst = s.inst ∧
    (s.lineIdle).draws = s.draws ∧ (s.lineIdle).pending = s.pending := by
  simp only [State.lineIdle]
  (repeat' split) <;> simp

@[simp] theorem State.enterStuck_frame (s : State) :
    (s.enterStuck).held = s.held ∧ (s.enterStuck).tb = s.tb ∧ (s.enterStuck).tmpl = s.tmpl ∧
    (s.enterStuck).draws = s.draws ∧ (s.enterStuck).pending = s.pending := by
  simp only [State.enterStuck]
  (repeat' split) <;> simp

@[simp] theorem State.endStuck_frame (s : State) :
    (s.endStuck).held = s.held ∧ (s.endStuck).tb = s.tb ∧ (s.endStuck).tmpl = s.tmpl ∧
    (s.endStuck).det = s.det ∧ (s.endStuck).ctl = s.ctl ∧ (s.endStuck).dp = s.dp ∧
    (s.endStuck).en = s.en ∧ (s.endStuck).su = s.su ∧ (s.endStuck).ep = s.ep ∧ (s.endStuck).cap = s.cap ∧
    (s.endStuck).fm = s.fm ∧ (s.endStuck).inst = s.inst ∧ (s.endStuck).draws = s.draws ∧
    (s.endStuck).pending = s.pending := by
  simp only [State.endStuck]
  (repeat' split) <;> simp

@[simp] theorem State.followBit_frame (s : State) (read : List Bool) (b : Bool) :
    (s.followBit read b).held = s.held ∧ (s.followBit read b).tb = s.tb ∧ (s.followBit read b).draws = s.draws ∧
    (s.followBit read b).pending = s.pending := by
  simp only [State.followBit]
  (repeat' split) <;> simp

@[simp] theorem State.hearBit_frame (s : State) (b : Bool) :
    (s.hearBit b).held = s.held ∧ (s.hearBit b).tb = s.tb ∧ (s.hearBit b).draws = s.draws ∧
    (s.hearBit b).pending = s.pending := by
  simp only [State.hearBit]
  (repeat' split) <;> simp

@[simp] theorem State.sampleBit_frame (s : State) (b : Bool) :
    (s.sampleBit b).held = s.held ∧ (s.sampleBit b).tb = s.tb ∧ (s.sampleBit b).draws = s.draws ∧
    (s.sampleBit b).pending = s.pending := by
  simp only [State.sampleBit]
  (repeat' split) <;> simp

@[simp] theorem State.receiveBits_frame (s : State) (bits : List Bool) :
    (s.receiveBits bits).held = s.held ∧ (s.receiveBits bits).tb = s.tb ∧ (s.receiveBits bits).draws = s.draws ∧
    (s.receiveBits bits).pending = s.pending := by
  simp only [State.receiveBits]
  induction bits generalizing s with
  | nil => simp
  | cons b l ih => simp [ih]

@[simp] theorem State.queueStatus_frame (s : State) :
    (s.queueStatus).held = s.held ∧ (s.queueStatus).tb = s.tb ∧ (s.queueStatus).tmpl = s.tmpl ∧
    (s.queueStatus).det = s.det ∧ (s.queueStatus).ctl = s.ctl ∧ (s.queueStatus).dp = s.dp ∧
    (s.queueStatus).en = s.en ∧ (s.queueStatus).su = s.su ∧ (s.queueStatus).ep = s.ep ∧
    (s.queueStatus).cap = s.cap ∧ (s.queueStatus).fm = s.fm ∧ (s.queueStatus).port = s.port ∧
    (s.queueStatus).inst = s.inst ∧ (s.queueStatus).draws = s.draws ∧ (s.queueStatus).pending = s.pending := by
  simp only [State.queueStatus]
  (repeat' split) <;> simp

@[simp] theorem State.endSilence_frame (s : State) :
    (s.endSilence).held = s.held ∧ (s.endSilence).tb = s.tb ∧ (s.endSilence).tmpl = s.tmpl ∧
    (s.endSilence).det = s.det ∧ (s.endSilence).ctl = s.ctl ∧ (s.endSilence).dp = s.dp ∧
    (s.endSilence).en = s.en ∧ (s.endSilence).su = s.su ∧ (s.endSilence).ep = s.ep ∧
    (s.endSilence).cap = s.cap ∧ (s.endSilence).fm = s.fm ∧ (s.endSilence).inst = s.inst ∧
    (s.endSilence).draws = s.draws ∧ (s.endSilence).pending = s.pending := by
  simp only [State.endSilence]
  (repeat' split) <;> simp

@[simp] theorem State.tickSilence_frame (s : State) :
    (s.tickSilence).held = s.held ∧ (s.tickSilence).tb = s.tb ∧ (s.tickSilence).tmpl = s.tmpl ∧
    (s.tickSilence).det = s.det ∧ (s.tickSilence).ctl = s.ctl ∧ (s.tickSilence).dp = s.dp ∧
    (s.tickSilence).en = s.en ∧ (s.tickSilence).su = s.su ∧ (s.tickSilence).ep = s.ep ∧
    (s.tickSilence).cap = s.cap ∧ (s.tickSilence).fm = s.fm ∧ (s.tickSilence).inst = s.inst ∧
    (s.tickSilence).draws = s.draws ∧ (s.tickSilence).pending = s.pending := by
  simp only [State.tickSilence]
  (repeat' split) <;> simp

@[simp] theorem State.tickThrottle_frame (s : State) :
    (s.tickThrottle).held = s.held ∧ (s.tickThrottle).tb = s.tb ∧ (s.tickThrottle).tmpl = s.tmpl ∧
    (s.tickThrottle).det = s.det ∧ (s.tickThrottle).ctl = s.ctl ∧ (s.tickThrottle).dp = s.dp ∧
    (s.tickThrottle).en = s.en ∧ (s.tickThrottle).su = s.su ∧ (s.tickThrottle).ep = s.ep ∧
    (s.tickThrottle).cap = s.cap ∧ (s.tickThrottle).fm = s.fm ∧ (s.tickThrottle).port = s.port ∧
    (s.tickThrottle).inst = s.inst ∧ (s.tickThrottle).draws = s.draws ∧
    (s.tickThrottle).pending = s.pending := by
  simp only [State.tickThrottle]
  (repeat' split) <;> simp

@[simp] theorem State.lineBoundary_frame (s : State) :
    (s.lineBoundary).held = s.held ∧ (s.lineBoundary).tb = s.tb ∧ (s.lineBoundary).tmpl = s.tmpl ∧
    (s.lineBoundary).det = s.det ∧ (s.lineBoundary).ctl = s.ctl ∧ (s.lineBoundary).dp = s.dp ∧
    (s.lineBoundary).en = s.en ∧ (s.lineBoundary).su = s.su ∧ (s.lineBoundary).ep = s.ep ∧
    (s.lineBoundary).cap = s.cap ∧ (s.lineBoundary).fm = s.fm ∧ (s.lineBoundary).inst = s.inst ∧
    (s.lineBoundary).draws = s.draws ∧ (s.lineBoundary).pending = s.pending := by
  simp only [State.lineBoundary]
  (repeat' split) <;> simp

@[simp] theorem State.episodeBoundary_frame (s : State) (sag : PerPhase Bool) (f : ClampFlags) :
    (s.episodeBoundary sag f).held = s.held ∧ (s.episodeBoundary sag f).tb = s.tb ∧
    (s.episodeBoundary sag f).tmpl = s.tmpl ∧ (s.episodeBoundary sag f).det = s.det ∧
    (s.episodeBoundary sag f).ctl = s.ctl ∧ (s.episodeBoundary sag f).dp = s.dp ∧
    (s.episodeBoundary sag f).en = s.en ∧ (s.episodeBoundary sag f).su = s.su ∧
    (s.episodeBoundary sag f).line = s.line ∧ (s.episodeBoundary sag f).cap = s.cap ∧
    (s.episodeBoundary sag f).fm = s.fm ∧ (s.episodeBoundary sag f).port = s.port ∧
    (s.episodeBoundary sag f).inst = s.inst ∧ (s.episodeBoundary sag f).draws = s.draws ∧
    (s.episodeBoundary sag f).pending = s.pending := by
  simp only [State.episodeBoundary]
  (repeat' split) <;> simp

@[simp] theorem State.writeGrid_frame (s : State) :
    (s.writeGrid).held = s.held ∧ (s.writeGrid).tb = s.tb ∧ (s.writeGrid).tmpl = s.tmpl ∧
    (s.writeGrid).det = s.det ∧ (s.writeGrid).ctl = s.ctl ∧ (s.writeGrid).dp = s.dp ∧
    (s.writeGrid).en = s.en ∧ (s.writeGrid).su = s.su ∧ (s.writeGrid).line = s.line ∧
    (s.writeGrid).ep = s.ep ∧ (s.writeGrid).fm = s.fm ∧ (s.writeGrid).port = s.port ∧
    (s.writeGrid).inst = s.inst ∧ (s.writeGrid).draws = s.draws ∧ (s.writeGrid).pending = s.pending := by
  simp [State.writeGrid]

@[simp] theorem State.captureOne_frame (s : State) (n : Stamp) (one : Bool) :
    (s.captureOne n one).held = s.held ∧ (s.captureOne n one).tb = s.tb ∧
    (s.captureOne n one).tmpl = s.tmpl ∧ (s.captureOne n one).det = s.det ∧
    (s.captureOne n one).ctl = s.ctl ∧ (s.captureOne n one).dp = s.dp ∧ (s.captureOne n one).en = s.en ∧
    (s.captureOne n one).su = s.su ∧ (s.captureOne n one).line = s.line ∧
    (s.captureOne n one).ep = s.ep ∧ (s.captureOne n one).fm = s.fm ∧
    (s.captureOne n one).inst = s.inst ∧ (s.captureOne n one).draws = s.draws ∧
    (s.captureOne n one).pending = s.pending := by
  simp only [State.captureOne]
  (repeat' split) <;> simp

@[simp] theorem State.captureBoundary_frame (s : State) (n : Stamp) :
    (s.captureBoundary n).held = s.held ∧ (s.captureBoundary n).tb = s.tb ∧
    (s.captureBoundary n).tmpl = s.tmpl ∧ (s.captureBoundary n).det = s.det ∧
    (s.captureBoundary n).ctl = s.ctl ∧ (s.captureBoundary n).dp = s.dp ∧
    (s.captureBoundary n).en = s.en ∧ (s.captureBoundary n).su = s.su ∧
    (s.captureBoundary n).line = s.line ∧ (s.captureBoundary n).ep = s.ep ∧
    (s.captureBoundary n).fm = s.fm ∧ (s.captureBoundary n).draws = s.draws ∧
    (s.captureBoundary n).pending = s.pending := by
  simp [State.captureBoundary]

@[simp] theorem State.endCopyOf_frame (s : State) (one : Bool) :
    (s.endCopyOf one).held = s.held ∧ (s.endCopyOf one).tb = s.tb ∧ (s.endCopyOf one).tmpl = s.tmpl ∧
    (s.endCopyOf one).det = s.det ∧ (s.endCopyOf one).ctl = s.ctl ∧ (s.endCopyOf one).dp = s.dp ∧
    (s.endCopyOf one).en = s.en ∧ (s.endCopyOf one).su = s.su ∧ (s.endCopyOf one).line = s.line ∧
    (s.endCopyOf one).ep = s.ep ∧ (s.endCopyOf one).fm = s.fm ∧ (s.endCopyOf one).inst = s.inst ∧
    (s.endCopyOf one).draws = s.draws ∧ (s.endCopyOf one).pending = s.pending := by
  simp only [State.endCopyOf]
  (repeat' split) <;> simp

@[simp] theorem State.endCopy_frame (s : State) :
    (s.endCopy).held = s.held ∧ (s.endCopy).tb = s.tb ∧ (s.endCopy).tmpl = s.tmpl ∧
    (s.endCopy).det = s.det ∧ (s.endCopy).ctl = s.ctl ∧ (s.endCopy).dp = s.dp ∧ (s.endCopy).en = s.en ∧
    (s.endCopy).su = s.su ∧ (s.endCopy).line = s.line ∧ (s.endCopy).ep = s.ep ∧ (s.endCopy).fm = s.fm ∧
    (s.endCopy).inst = s.inst ∧ (s.endCopy).draws = s.draws ∧ (s.endCopy).pending = s.pending := by
  simp only [State.endCopy]
  (repeat' split) <;> simp

@[simp] theorem State.endCopies_frame (s : State) (n : Nat) :
    (s.endCopies n).held = s.held ∧ (s.endCopies n).tb = s.tb ∧ (s.endCopies n).tmpl = s.tmpl ∧
    (s.endCopies n).det = s.det ∧ (s.endCopies n).ctl = s.ctl ∧ (s.endCopies n).dp = s.dp ∧
    (s.endCopies n).en = s.en ∧ (s.endCopies n).su = s.su ∧ (s.endCopies n).line = s.line ∧
    (s.endCopies n).ep = s.ep ∧ (s.endCopies n).fm = s.fm ∧ (s.endCopies n).inst = s.inst ∧
    (s.endCopies n).draws = s.draws ∧ (s.endCopies n).pending = s.pending := by
  induction n generalizing s with
  | zero => simp [State.endCopies]
  | succ n ih => simp [State.endCopies, ih]

@[simp] theorem State.disarmChannel_frame (s : State) (one : Bool) :
    (s.disarmChannel one).held = s.held ∧ (s.disarmChannel one).tb = s.tb ∧
    (s.disarmChannel one).tmpl = s.tmpl ∧ (s.disarmChannel one).det = s.det ∧
    (s.disarmChannel one).ctl = s.ctl ∧ (s.disarmChannel one).dp = s.dp ∧
    (s.disarmChannel one).en = s.en ∧ (s.disarmChannel one).su = s.su ∧
    (s.disarmChannel one).line = s.line ∧ (s.disarmChannel one).ep = s.ep ∧
    (s.disarmChannel one).fm = s.fm ∧ (s.disarmChannel one).inst = s.inst ∧
    (s.disarmChannel one).draws = s.draws ∧ (s.disarmChannel one).pending = s.pending := by
  simp only [State.disarmChannel]
  (repeat' split) <;> simp

@[simp] theorem State.softChannel_frame (s : State) (one : Bool) :
    (s.softChannel one).held = s.held ∧ (s.softChannel one).tb = s.tb ∧
    (s.softChannel one).tmpl = s.tmpl ∧ (s.softChannel one).det = s.det ∧
    (s.softChannel one).ctl = s.ctl ∧ (s.softChannel one).dp = s.dp ∧ (s.softChannel one).en = s.en ∧
    (s.softChannel one).su = s.su ∧ (s.softChannel one).line = s.line ∧ (s.softChannel one).ep = s.ep ∧
    (s.softChannel one).fm = s.fm ∧ (s.softChannel one).inst = s.inst ∧
    (s.softChannel one).draws = s.draws ∧ (s.softChannel one).pending = s.pending := by
  simp [State.softChannel]

@[simp] theorem State.scrubFrom_frame (s : State) (j n : Nat) :
    (s.scrubFrom j n).held = s.held ∧ (s.scrubFrom j n).tb = s.tb ∧ (s.scrubFrom j n).tmpl = s.tmpl ∧
    (s.scrubFrom j n).draws = s.draws ∧ (s.scrubFrom j n).pending = s.pending := by
  induction n generalizing s j with
  | zero => simp [State.scrubFrom]
  | succ n ih =>
    simp only [State.scrubFrom]
    split <;> simp [ih]

@[simp] theorem State.faultBoundary_frame (s : State) :
    (s.faultBoundary).held = s.held ∧ (s.faultBoundary).tb = s.tb ∧ (s.faultBoundary).tmpl = s.tmpl ∧
    (s.faultBoundary).draws = s.draws ∧ (s.faultBoundary).pending = s.pending := by
  simp only [State.faultBoundary]
  (repeat' split) <;> simp

@[simp] theorem State.startFlags_frame (s : State) :
    (s.startFlags).held = s.held ∧ (s.startFlags).tb = s.tb ∧ (s.startFlags).ctl = s.ctl ∧
    (s.startFlags).en = s.en ∧ (s.startFlags).su = s.su ∧ (s.startFlags).ep = s.ep ∧
    (s.startFlags).cap = s.cap ∧ (s.startFlags).fm = s.fm ∧ (s.startFlags).port = s.port ∧
    (s.startFlags).inst = s.inst ∧ (s.startFlags).draws = s.draws ∧ (s.startFlags).pending = s.pending := by
  simp only [State.startFlags]
  (repeat' split) <;> simp

@[simp] theorem State.holdSample_frame (s : State) (v : SenseInput) :
    (s.holdSample v).held = s.held ∧ (s.holdSample v).det = s.det ∧ (s.holdSample v).ctl = s.ctl ∧
    (s.holdSample v).dp = s.dp ∧ (s.holdSample v).en = s.en ∧ (s.holdSample v).su = s.su ∧
    (s.holdSample v).line = s.line ∧ (s.holdSample v).ep = s.ep ∧ (s.holdSample v).fm = s.fm ∧
    (s.holdSample v).port = s.port ∧ (s.holdSample v).inst = s.inst ∧ (s.holdSample v).draws = s.draws ∧
    (s.holdSample v).pending = s.pending := by
  simp [State.holdSample]

@[simp] theorem State.beginSample_frame (s : State) :
    (s.beginSample).held = s.held ∧ (s.beginSample).tb = s.tb ∧ (s.beginSample).tmpl = s.tmpl ∧
    (s.beginSample).det = s.det ∧ (s.beginSample).ctl = s.ctl ∧ (s.beginSample).dp = s.dp ∧
    (s.beginSample).en = s.en ∧ (s.beginSample).su = s.su ∧ (s.beginSample).line = s.line ∧
    (s.beginSample).ep = s.ep ∧ (s.beginSample).cap = s.cap ∧ (s.beginSample).fm = s.fm ∧
    (s.beginSample).port = s.port ∧ (s.beginSample).draws = s.draws ∧ (s.beginSample).pending = s.pending := by
  simp [State.beginSample]

@[simp] theorem State.samplePart_frame (s : State) (r : SampleRead) (w : Bool) (p : SamplePart) :
    (s.samplePart r w p).held = s.held ∧ (s.samplePart r w p).tb = s.tb ∧
    (s.samplePart r w p).draws = s.draws ∧ (s.samplePart r w p).pending = s.pending := by
  simp only [State.samplePart]
  (repeat' split) <;> simp

@[simp] theorem State.markInjected_frame (s : State) (b : Bool) :
    (s.markInjected b).held = s.held ∧ (s.markInjected b).tb = s.tb ∧ (s.markInjected b).det = s.det ∧
    (s.markInjected b).ctl = s.ctl ∧ (s.markInjected b).dp = s.dp ∧ (s.markInjected b).en = s.en ∧
    (s.markInjected b).su = s.su ∧ (s.markInjected b).line = s.line ∧ (s.markInjected b).ep = s.ep ∧
    (s.markInjected b).cap = s.cap ∧ (s.markInjected b).fm = s.fm ∧ (s.markInjected b).port = s.port ∧
    (s.markInjected b).inst = s.inst ∧ (s.markInjected b).draws = s.draws ∧
    (s.markInjected b).pending = s.pending := by
  simp only [State.markInjected]
  (repeat' split) <;> simp

@[simp] theorem State.publish_frame (s : State) (b : BoundaryData) :
    (s.publish b).held = s.held ∧ (s.publish b).tmpl = s.tmpl ∧ (s.publish b).ctl = s.ctl ∧
    (s.publish b).en = s.en ∧ (s.publish b).su = s.su ∧ (s.publish b).line = s.line ∧
    (s.publish b).ep = s.ep ∧ (s.publish b).fm = s.fm ∧ (s.publish b).port = s.port ∧
    (s.publish b).draws = s.draws ∧ (s.publish b).pending = s.pending := by
  simp [State.publish]

@[simp] theorem State.boundaryPart_frame (s : State) (b : BoundaryData) (p : BoundaryPart) :
    (s.boundaryPart b p).held = s.held ∧ (s.boundaryPart b p).draws = s.draws ∧
    (s.boundaryPart b p).pending = s.pending := by
  simp only [State.boundaryPart]
  (repeat' split) <;> simp

@[simp] theorem State.endWork_frame (s : State) :
    (s.endWork).held = s.held ∧ (s.endWork).tb = s.tb ∧ (s.endWork).tmpl = s.tmpl ∧
    (s.endWork).det = s.det ∧ (s.endWork).ctl = s.ctl ∧ (s.endWork).dp = s.dp ∧ (s.endWork).en = s.en ∧
    (s.endWork).su = s.su ∧ (s.endWork).line = s.line ∧ (s.endWork).ep = s.ep ∧ (s.endWork).cap = s.cap ∧
    (s.endWork).fm = s.fm ∧ (s.endWork).port = s.port ∧ (s.endWork).draws = s.draws ∧
    (s.endWork).pending = s.pending := by
  simp [State.endWork]

end Sys2Proof.Machine
end

