-- ==== Sys2Proof/Laws/Events.lean ====
section
/-! SUPPORT. No operation of a block clears a pending event (R162). -/

namespace Sys2Proof.Machine

/-- A value all of whose bits another has is their conjunction. -/
theorem and_eq_of_bits {n : Nat} (a b : BitVec n) (h : ∀ i, a.getLsbD i = true → b.getLsbD i = true) :
    a &&& b = a := by
  apply BitVec.eq_of_getLsbD_eq
  intro i _
  rw [BitVec.getLsbD_and]
  cases e : a.getLsbD i
  · rfl
  · simp [h i e]

@[simp] theorem State.raise_events (s : State) (e : Event) (i : Nat)
    (hp : s.port.pending.getLsbD i = true) : (s.raise e).port.pending.getLsbD i = true := by
  simp [State.raise, hp]

@[simp] theorem State.endCapture_events (s : State) (one : Bool) (st : CaptureStatus) (i : Nat)
    (hp : s.port.pending.getLsbD i = true) : (s.endCapture one st).port.pending.getLsbD i = true := by
  simp [State.endCapture, hp]

@[simp] theorem State.askCopy_events (s : State) (one : Bool) (i : Nat)
    (hp : s.port.pending.getLsbD i = true) : (s.askCopy one).port.pending.getLsbD i = true := by
  simp only [State.askCopy]
  (repeat' split) <;> simp [hp]

@[simp] theorem State.triggerOne_events (s : State) (k : TriggerKind) (one : Bool) (i : Nat)
    (hp : s.port.pending.getLsbD i = true) : (s.triggerOne k one).port.pending.getLsbD i = true := by
  simp only [State.triggerOne]
  (repeat' split) <;> simp [hp]

@[simp] theorem State.giveTrigger_events (s : State) (k : TriggerKind) (i : Nat)
    (hp : s.port.pending.getLsbD i = true) : (s.giveTrigger k).port.pending.getLsbD i = true := by
  simp [State.giveTrigger, hp]

@[simp] theorem State.makeRoom_events (s : State) (i : Nat)
    (hp : s.port.pending.getLsbD i = true) : (s.makeRoom).port.pending.getLsbD i = true := by
  simp only [State.makeRoom]
  (repeat' split) <;> simp [hp]

@[simp] theorem State.openRecord_events (s : State) (o : Onset) (i : Nat)
    (hp : s.port.pending.getLsbD i = true) : (s.openRecord o).port.pending.getLsbD i = true := by
  simp [State.openRecord, hp]

@[simp] theorem State.closeRecord_events (s : State) (out : EpisodeOutcome) (i : Nat)
    (hp : s.port.pending.getLsbD i = true) : (s.closeRecord out).port.pending.getLsbD i = true := by
  simp only [State.closeRecord]
  (repeat' split) <;> simp [hp]

@[simp] theorem State.unservedRecord_events (s : State) (o : Onset) (i : Nat)
    (hp : s.port.pending.getLsbD i = true) : (s.unservedRecord o).port.pending.getLsbD i = true := by
  simp [State.unservedRecord, hp]

@[simp] theorem State.beginHandback_events (s : State) (c : Cause) (i : Nat)
    (hp : s.port.pending.getLsbD i = true) : (s.beginHandback c).port.pending.getLsbD i = true := by
  simp only [State.beginHandback]
  (repeat' split) <;> simp [hp]

@[simp] theorem State.takeCause_events (s : State) (c : Cause) (i : Nat)
    (hp : s.port.pending.getLsbD i = true) : (s.takeCause c).port.pending.getLsbD i = true := by
  simp only [State.takeCause]
  (repeat' split) <;> simp [hp]

@[simp] theorem State.recordFault_events (s : State) (k : FaultKind) (p : Option Phase) (d : Option Nat) (i : Nat)
    (hp : s.port.pending.getLsbD i = true) : (s.recordFault k p d).port.pending.getLsbD i = true := by
  simp only [State.recordFault]
  (repeat' split) <;> simp [hp]

@[simp] theorem State.abortRecord_events (s : State) (k : FaultKind) (i : Nat)
    (hp : s.port.pending.getLsbD i = true) : (s.abortRecord k).port.pending.getLsbD i = true := by
  simp only [State.abortRecord]
  (repeat' split) <;> simp [hp]

@[simp] theorem State.enterLockout_events (s : State) (k : FaultKind) (i : Nat)
    (hp : s.port.pending.getLsbD i = true) : (s.enterLockout k).port.pending.getLsbD i = true := by
  simp only [State.enterLockout]
  (repeat' split) <;> simp [hp]

@[simp] theorem State.trip_events (s : State) (k : FaultKind) (i : Nat)
    (hp : s.port.pending.getLsbD i = true) : (s.trip k).port.pending.getLsbD i = true := by
  simp only [State.trip]
  (repeat' split) <;> simp [hp]

@[simp] theorem State.report_events (s : State) (k : FaultKind) (p : Option Phase) (d : Option Nat) (i : Nat)
    (hp : s.port.pending.getLsbD i = true) : (s.report k p d).port.pending.getLsbD i = true := by
  simp only [State.report]
  (repeat' split) <;> simp [hp]

@[simp] theorem State.countCorrected_events (s : State) (i : Nat)
    (hp : s.port.pending.getLsbD i = true) : (s.countCorrected).port.pending.getLsbD i = true := by
  simp [State.countCorrected, hp]

@[simp] theorem State.countCorrections_events (s : State) (n : Nat) (i : Nat)
    (hp : s.port.pending.getLsbD i = true) : (s.countCorrections n).port.pending.getLsbD i = true := by
  induction n generalizing s with
  | zero => simpa [State.countCorrections] using hp
  | succ n ih => exact ih _ (by simp [hp])

@[simp] theorem State.templateFault_events (s : State) (p : Phase) (i : Nat)
    (hp : s.port.pending.getLsbD i = true) : (s.templateFault p).port.pending.getLsbD i = true := by
  simp [State.templateFault, hp]

@[simp] theorem State.openEpisode_events (s : State) (o : Onset) (i : Nat)
    (hp : s.port.pending.getLsbD i = true) : (s.openEpisode o).port.pending.getLsbD i = true := by
  simp only [State.openEpisode]
  (repeat' split) <;> simp [hp]

@[simp] theorem State.takeOnset_events (s : State) (o : Onset) (i : Nat)
    (hp : s.port.pending.getLsbD i = true) : (s.takeOnset o).port.pending.getLsbD i = true := by
  simp only [State.takeOnset]
  (repeat' split) <;> simp [hp]

@[simp] theorem State.changeLock_events (s : State) (l : LockState) (i : Nat)
    (hp : s.port.pending.getLsbD i = true) : (s.changeLock l).port.pending.getLsbD i = true := by
  simp [State.changeLock, hp]

@[simp] theorem State.searchCrossing_events (s : State) (x : Stamp) (i : Nat)
    (hp : s.port.pending.getLsbD i = true) : (s.searchCrossing x).port.pending.getLsbD i = true := by
  simp only [State.searchCrossing]
  (repeat' split) <;> simp [hp]

@[simp] theorem State.enterCoast_events (s : State) (i : Nat)
    (hp : s.port.pending.getLsbD i = true) : (s.enterCoast).port.pending.getLsbD i = true := by
  simp [State.enterCoast, hp]

@[simp] theorem State.lockedCrossing_events (s : State) (x : Stamp) (i : Nat)
    (hp : s.port.pending.getLsbD i = true) : (s.lockedCrossing x).port.pending.getLsbD i = true := by
  simp only [State.lockedCrossing]
  (repeat' split) <;> simp [hp]

@[simp] theorem State.coastCrossing_events (s : State) (x : Stamp) (i : Nat)
    (hp : s.port.pending.getLsbD i = true) : (s.coastCrossing x).port.pending.getLsbD i = true := by
  simp only [State.coastCrossing]
  (repeat' split) <;> simp [hp]

@[simp] theorem State.takeCrossing_events (s : State) (x : Stamp) (i : Nat)
    (hp : s.port.pending.getLsbD i = true) : (s.takeCrossing x).port.pending.getLsbD i = true := by
  simp only [State.takeCrossing]
  (repeat' split) <;> simp [hp]

@[simp] theorem State.testWindow_events (s : State) (i : Nat)
    (hp : s.port.pending.getLsbD i = true) : (s.testWindow).port.pending.getLsbD i = true := by
  simp only [State.testWindow]
  (repeat' split) <;> simp [hp]

@[simp] theorem State.lockSample_events (s : State) (i : Nat)
    (hp : s.port.pending.getLsbD i = true) : (s.lockSample).port.pending.getLsbD i = true := by
  simp only [State.lockSample]
  (repeat' split) <;> simp [hp]

@[simp] theorem State.enterSearch_events (s : State) (i : Nat)
    (hp : s.port.pending.getLsbD i = true) : (s.enterSearch).port.pending.getLsbD i = true := by
  simp [State.enterSearch, hp]

@[simp] theorem State.lockBoundary_events (s : State) (i : Nat)
    (hp : s.port.pending.getLsbD i = true) : (s.lockBoundary).port.pending.getLsbD i = true := by
  simp only [State.lockBoundary]
  (repeat' split) <;> simp [hp]

@[simp] theorem State.appendCycle_events (s : State) (i : Nat)
    (hp : s.port.pending.getLsbD i = true) : (s.appendCycle).port.pending.getLsbD i = true := by
  simp only [State.appendCycle]
  (repeat' split) <;> simp [hp]

@[simp] theorem State.templateBoundary_events (s : State) (h : Bool) (lx : PerPhase Nat) (i : Nat)
    (hp : s.port.pending.getLsbD i = true) : (s.templateBoundary h lx).port.pending.getLsbD i = true := by
  simp only [State.templateBoundary]
  (repeat' split) <;> simp [hp]

@[simp] theorem State.testOnset_events (s : State) (i : Nat)
    (hp : s.port.pending.getLsbD i = true) : (s.testOnset).port.pending.getLsbD i = true := by
  simp only [State.testOnset]
  (repeat' split) <;> simp [hp]

@[simp] theorem State.onsetNotice_events (s : State) (i : Nat)
    (hp : s.port.pending.getLsbD i = true) : (s.onsetNotice).port.pending.getLsbD i = true := by
  simp only [State.onsetNotice]
  (repeat' split) <;> simp [hp]

@[simp] theorem State.detectorBoundary_events (s : State) (q : Bool) (i : Nat)
    (hp : s.port.pending.getLsbD i = true) : (s.detectorBoundary q).port.pending.getLsbD i = true := by
  simp only [State.detectorBoundary]
  (repeat' split) <;> simp [hp]

@[simp] theorem State.takeReonset_events (s : State) (i : Nat)
    (hp : s.port.pending.getLsbD i = true) : (s.takeReonset).port.pending.getLsbD i = true := by
  simp only [State.takeReonset]
  (repeat' split) <;> simp [hp]

@[simp] theorem State.confirmClose_events (s : State) (i : Nat)
    (hp : s.port.pending.getLsbD i = true) : (s.confirmClose).port.pending.getLsbD i = true := by
  simp only [State.confirmClose]
  (repeat' split) <;> simp [hp]

@[simp] theorem State.testOpening_events (s : State) (i : Nat)
    (hp : s.port.pending.getLsbD i = true) : (s.testOpening).port.pending.getLsbD i = true := by
  simp only [State.testOpening]
  (repeat' split) <;> simp [hp]

@[simp] theorem State.reportCloseFail_events (s : State) (i : Nat)
    (hp : s.port.pending.getLsbD i = true) : (s.reportCloseFail).port.pending.getLsbD i = true := by
  simp [State.reportCloseFail, hp]

@[simp] theorem State.testClosing_events (s : State) (i : Nat)
    (hp : s.port.pending.getLsbD i = true) : (s.testClosing).port.pending.getLsbD i = true := by
  simp only [State.testClosing]
  (repeat' split) <;> simp [hp]

@[simp] theorem State.reportUncommanded_events (s : State) (i : Nat)
    (hp : s.port.pending.getLsbD i = true) : (s.reportUncommanded).port.pending.getLsbD i = true := by
  simp [State.reportUncommanded, hp]

@[simp] theorem State.testClosed_events (s : State) (i : Nat)
    (hp : s.port.pending.getLsbD i = true) : (s.testClosed).port.pending.getLsbD i = true := by
  simp only [State.testClosed]
  (repeat' split) <;> simp [hp]

@[simp] theorem State.testFeedback_events (s : State) (w : Bool) (i : Nat)
    (hp : s.port.pending.getLsbD i = true) : (s.testFeedback w).port.pending.getLsbD i = true := by
  simp only [State.testFeedback]
  (repeat' split) <;> simp [hp]

@[simp] theorem State.testOvercurrent_events (s : State) (i : Nat)
    (hp : s.port.pending.getLsbD i = true) : (s.testOvercurrent).port.pending.getLsbD i = true := by
  simp only [State.testOvercurrent]
  (repeat' split) <;> simp [hp]

@[simp] theorem State.testOvervoltage_events (s : State) (i : Nat)
    (hp : s.port.pending.getLsbD i = true) : (s.testOvervoltage).port.pending.getLsbD i = true := by
  simp only [State.testOvervoltage]
  (repeat' split) <;> simp [hp]

@[simp] theorem State.takeLink_events (s : State) (i : Nat)
    (hp : s.port.pending.getLsbD i = true) : (s.takeLink).port.pending.getLsbD i = true := by
  simp [State.takeLink, hp]

@[simp] theorem State.planInjecting_events (s : State) (n : Stamp) (lx : PerPhase Nat) (v : Nat) (i : Nat)
    (hp : s.port.pending.getLsbD i = true) : (s.planInjecting n lx v).port.pending.getLsbD i = true := by
  simp only [State.planInjecting]
  (repeat' split) <;> simp [hp]

@[simp] theorem State.plannerBoundary_events (s : State) (n : Stamp) (lx : PerPhase Nat) (v : Nat) (i : Nat)
    (hp : s.port.pending.getLsbD i = true) : (s.plannerBoundary n lx v).port.pending.getLsbD i = true := by
  simp only [State.plannerBoundary]
  (repeat' split) <;> simp [hp]

@[simp] theorem State.peerEvents_events (s : State) (u v : PeerEntry) (i : Nat)
    (hp : s.port.pending.getLsbD i = true) : (s.peerEvents u v).port.pending.getLsbD i = true := by
  simp only [State.peerEvents]
  (repeat' split) <;> simp [hp]

@[simp] theorem State.endIsolation_events (s : State) (i : Nat)
    (hp : s.port.pending.getLsbD i = true) : (s.endIsolation).port.pending.getLsbD i = true := by
  simp only [State.endIsolation]
  (repeat' split) <;> simp [hp]

@[simp] theorem State.giveNotice_events (s : State) (c : FrameClass) (k : Nat) (i : Nat)
    (hp : s.port.pending.getLsbD i = true) : (s.giveNotice c k).port.pending.getLsbD i = true := by
  simp only [State.giveNotice]
  (repeat' split) <;> simp [hp]

@[simp] theorem State.takeFrame_events (s : State) (f : Frame) (i : Nat)
    (hp : s.port.pending.getLsbD i = true) : (s.takeFrame f).port.pending.getLsbD i = true := by
  simp only [State.takeFrame]
  split
  · exact State.giveNotice_events _ _ _ _
      (State.peerEvents_events _ _ _ _ (State.endIsolation_events _ _ (by simpa using hp)))
  · exact hp

@[simp] theorem State.loseEntry_events (s : State) (k : Nat) (i : Nat)
    (hp : s.port.pending.getLsbD i = true) : (s.loseEntry k).port.pending.getLsbD i = true := by
  simp [State.loseEntry, hp]

@[simp] theorem State.ageEntry_events (s : State) (k : Nat) (i : Nat)
    (hp : s.port.pending.getLsbD i = true) : (s.ageEntry k).port.pending.getLsbD i = true := by
  simp only [State.ageEntry]
  (repeat' split) <;> simp [hp]

@[simp] theorem State.agePeers_events (s : State) (i : Nat)
    (hp : s.port.pending.getLsbD i = true) : (s.agePeers).port.pending.getLsbD i = true := by
  simp only [State.agePeers, List.range, List.range.loop, List.foldl]
  iterate 8 apply State.ageEntry_events
  exact hp

@[simp] theorem State.isolate_events (s : State) (i : Nat)
    (hp : s.port.pending.getLsbD i = true) : (s.isolate).port.pending.getLsbD i = true := by
  simp [State.isolate, hp]

@[simp] theorem State.testLine_events (s : State) (i : Nat)
    (hp : s.port.pending.getLsbD i = true) : (s.testLine).port.pending.getLsbD i = true := by
  simp only [State.testLine]
  (repeat' split) <;> simp [hp]

@[simp] theorem State.shareBoundary_events (s : State) (i : Nat)
    (hp : s.port.pending.getLsbD i = true) : (s.shareBoundary).port.pending.getLsbD i = true := by
  simp only [State.shareBoundary]
  split
  · apply State.testLine_events
    simp only [State.shareAtBoundary_frame, State.modSu_port]
    split
    · exact State.isolate_events _ _ (by simpa using State.agePeers_events s i hp)
    · simpa using State.agePeers_events s i hp
  · exact hp

@[simp] theorem State.setTec_events (s : State) (n : Nat) (i : Nat)
    (hp : s.port.pending.getLsbD i = true) : (s.setTec n).port.pending.getLsbD i = true := by
  simp only [State.setTec]
  (repeat' split) <;> simp [hp]

@[simp] theorem State.bitError_events (s : State) (k : Nat) (i : Nat)
    (hp : s.port.pending.getLsbD i = true) : (s.bitError k).port.pending.getLsbD i = true := by
  simp only [State.bitError]
  (repeat' split) <;> simp [hp]

@[simp] theorem State.completeFrame_events (s : State) (i : Nat)
    (hp : s.port.pending.getLsbD i = true) : (s.completeFrame).port.pending.getLsbD i = true := by
  simp only [State.completeFrame]
  (repeat' split) <;> simp [hp]

@[simp] theorem State.acceptFrame_events (s : State) (f : Frame) (i : Nat)
    (hp : s.port.pending.getLsbD i = true) : (s.acceptFrame f).port.pending.getLsbD i = true := by
  simp only [State.acceptFrame]
  (repeat' split) <;> simp [hp]

@[simp] theorem State.enterStuck_events (s : State) (i : Nat)
    (hp : s.port.pending.getLsbD i = true) : (s.enterStuck).port.pending.getLsbD i = true := by
  simp only [State.enterStuck]
  (repeat' split) <;> simp [hp]

@[simp] theorem State.endStuck_events (s : State) (i : Nat)
    (hp : s.port.pending.getLsbD i = true) : (s.endStuck).port.pending.getLsbD i = true := by
  simp only [State.endStuck]
  (repeat' split) <;> simp [hp]

@[simp] theorem State.followBit_events (s : State) (read : List Bool) (b : Bool) (i : Nat)
    (hp : s.port.pending.getLsbD i = true) : (s.followBit read b).port.pending.getLsbD i = true := by
  simp only [State.followBit]
  (repeat' split) <;> simp [hp]

@[simp] theorem State.hearBit_events (s : State) (b : Bool) (i : Nat)
    (hp : s.port.pending.getLsbD i = true) : (s.hearBit b).port.pending.getLsbD i = true := by
  simp only [State.hearBit]
  (repeat' split) <;> simp [hp]

@[simp] theorem State.sampleBit_events (s : State) (b : Bool) (i : Nat)
    (hp : s.port.pending.getLsbD i = true) : (s.sampleBit b).port.pending.getLsbD i = true := by
  simp only [State.sampleBit]
  (repeat' split) <;> simp [hp]

@[simp] theorem State.receiveBits_events (s : State) (bits : List Bool) (i : Nat)
    (hp : s.port.pending.getLsbD i = true) : (s.receiveBits bits).port.pending.getLsbD i = true := by
  simp only [State.receiveBits]
  induction bits generalizing s with
  | nil => exact hp
  | cons b l ih => exact ih _ (by simp [hp])

@[simp] theorem State.endSilence_events (s : State) (i : Nat)
    (hp : s.port.pending.getLsbD i = true) : (s.endSilence).port.pending.getLsbD i = true := by
  simp only [State.endSilence]
  (repeat' split) <;> simp [hp]

@[simp] theorem State.tickSilence_events (s : State) (i : Nat)
    (hp : s.port.pending.getLsbD i = true) : (s.tickSilence).port.pending.getLsbD i = true := by
  simp only [State.tickSilence]
  (repeat' split) <;> simp [hp]

@[simp] theorem State.lineBoundary_events (s : State) (i : Nat)
    (hp : s.port.pending.getLsbD i = true) : (s.lineBoundary).port.pending.getLsbD i = true := by
  simp only [State.lineBoundary]
  (repeat' split) <;> simp [hp]

@[simp] theorem State.captureOne_events (s : State) (n : Stamp) (one : Bool) (i : Nat)
    (hp : s.port.pending.getLsbD i = true) : (s.captureOne n one).port.pending.getLsbD i = true := by
  simp only [State.captureOne]
  (repeat' split) <;> simp [hp]

@[simp] theorem State.captureBoundary_events (s : State) (n : Stamp) (i : Nat)
    (hp : s.port.pending.getLsbD i = true) : (s.captureBoundary n).port.pending.getLsbD i = true := by
  simp [State.captureBoundary, hp]

@[simp] theorem State.endCopyOf_events (s : State) (one : Bool) (i : Nat)
    (hp : s.port.pending.getLsbD i = true) : (s.endCopyOf one).port.pending.getLsbD i = true := by
  simp only [State.endCopyOf]
  (repeat' split) <;> simp [hp]

@[simp] theorem State.endCopy_events (s : State) (i : Nat)
    (hp : s.port.pending.getLsbD i = true) : (s.endCopy).port.pending.getLsbD i = true := by
  simp only [State.endCopy]
  (repeat' split) <;> simp [hp]

@[simp] theorem State.endCopies_events (s : State) (n : Nat) (i : Nat)
    (hp : s.port.pending.getLsbD i = true) : (s.endCopies n).port.pending.getLsbD i = true := by
  induction n generalizing s with
  | zero => simpa [State.endCopies] using hp
  | succ n ih => exact ih _ (by simp [hp])

@[simp] theorem State.disarmChannel_events (s : State) (one : Bool) (i : Nat)
    (hp : s.port.pending.getLsbD i = true) : (s.disarmChannel one).port.pending.getLsbD i = true := by
  simp only [State.disarmChannel]
  (repeat' split) <;> simp [hp]

@[simp] theorem State.softChannel_events (s : State) (one : Bool) (i : Nat)
    (hp : s.port.pending.getLsbD i = true) : (s.softChannel one).port.pending.getLsbD i = true := by
  simp [State.softChannel, hp]

@[simp] theorem State.scrubFrom_events (s : State) (j n : Nat) (i : Nat)
    (hp : s.port.pending.getLsbD i = true) : (s.scrubFrom j n).port.pending.getLsbD i = true := by
  induction n generalizing s j with
  | zero => simpa [State.scrubFrom] using hp
  | succ n ih =>
    simp only [State.scrubFrom]
    split
    · exact ih _ _ hp
    · exact ih _ _ (by simp [hp])
    · simp [hp]

@[simp] theorem State.faultBoundary_events (s : State) (i : Nat)
    (hp : s.port.pending.getLsbD i = true) : (s.faultBoundary).port.pending.getLsbD i = true := by
  simp only [State.faultBoundary]
  (repeat' split) <;> simp [hp]

@[simp] theorem State.samplePart_events (s : State) (r : SampleRead) (w : Bool) (p : SamplePart) (i : Nat)
    (hp : s.port.pending.getLsbD i = true) : (s.samplePart r w p).port.pending.getLsbD i = true := by
  simp only [State.samplePart]
  (repeat' split) <;> simp [hp]

@[simp] theorem State.boundaryPart_events (s : State) (b : BoundaryData) (p : BoundaryPart) (i : Nat)
    (hp : s.port.pending.getLsbD i = true) : (s.boundaryPart b p).port.pending.getLsbD i = true := by
  simp only [State.boundaryPart]
  (repeat' split) <;> simp [hp]

end Sys2Proof.Machine
end

