-- ==== Sys2Proof/Laws/Fixed.lean ====
section
/-! SUPPORT. What the operations leave of the blocks they do write: the port but its pending events (and
its result), the thresholds, the full credit and the trip level, the capture memory and the halves of the
live buffer. -/

namespace Sys2Proof.Machine

@[simp] theorem State.raise_fixed (s : State) (e : Event) :
    (s.raise e).port.params = s.port.params ∧ (s.raise e).port.store = s.port.store ∧
    (s.raise e).port.fingerprint = s.port.fingerprint ∧ (s.raise e).port.committed = s.port.committed ∧
    (s.raise e).port.station = s.port.station ∧ (s.raise e).port.countStrap = s.port.countStrap ∧
    (s.raise e).port.enable = s.port.enable ∧ (s.raise e).port.staging = s.port.staging ∧
    (s.raise e).port.window = s.port.window ∧ (s.raise e).port.gap = s.port.gap := by
  simp [State.raise]

@[simp] theorem State.endCapture_fixed (s : State) (one : Bool) (st : CaptureStatus) :
    (s.endCapture one st).port.params = s.port.params ∧ (s.endCapture one st).port.store = s.port.store ∧
    (s.endCapture one st).port.fingerprint = s.port.fingerprint ∧
    (s.endCapture one st).port.committed = s.port.committed ∧
    (s.endCapture one st).port.station = s.port.station ∧
    (s.endCapture one st).port.countStrap = s.port.countStrap ∧
    (s.endCapture one st).port.enable = s.port.enable ∧
    (s.endCapture one st).port.staging = s.port.staging ∧
    (s.endCapture one st).port.window = s.port.window ∧ (s.endCapture one st).port.gap = s.port.gap ∧
    (s.endCapture one st).cap.block = s.cap.block ∧ (s.endCapture one st).cap.offset = s.cap.offset ∧
    (s.endCapture one st).cap.memory = s.cap.memory ∧ (s.endCapture one st).cap.filling = s.cap.filling ∧
    (s.endCapture one st).cap.completed = s.cap.completed := by
  cases one <;> simp [State.endCapture, Capture.modChannel]

@[simp] theorem State.askCopy_fixed (s : State) (one : Bool) :
    (s.askCopy one).port.params = s.port.params ∧ (s.askCopy one).port.store = s.port.store ∧
    (s.askCopy one).port.fingerprint = s.port.fingerprint ∧
    (s.askCopy one).port.committed = s.port.committed ∧ (s.askCopy one).port.station = s.port.station ∧
    (s.askCopy one).port.countStrap = s.port.countStrap ∧ (s.askCopy one).port.enable = s.port.enable ∧
    (s.askCopy one).port.staging = s.port.staging ∧ (s.askCopy one).port.window = s.port.window ∧
    (s.askCopy one).port.gap = s.port.gap ∧ (s.askCopy one).cap.block = s.cap.block ∧
    (s.askCopy one).cap.offset = s.cap.offset ∧ (s.askCopy one).cap.memory = s.cap.memory ∧
    (s.askCopy one).cap.filling = s.cap.filling ∧ (s.askCopy one).cap.completed = s.cap.completed := by
  simp only [State.askCopy]
  (repeat' split) <;> simp

@[simp] theorem State.triggerOne_fixed (s : State) (k : TriggerKind) (one : Bool) :
    (s.triggerOne k one).port.params = s.port.params ∧ (s.triggerOne k one).port.store = s.port.store ∧
    (s.triggerOne k one).port.fingerprint = s.port.fingerprint ∧
    (s.triggerOne k one).port.committed = s.port.committed ∧
    (s.triggerOne k one).port.station = s.port.station ∧
    (s.triggerOne k one).port.countStrap = s.port.countStrap ∧
    (s.triggerOne k one).port.enable = s.port.enable ∧
    (s.triggerOne k one).port.staging = s.port.staging ∧
    (s.triggerOne k one).port.window = s.port.window ∧ (s.triggerOne k one).port.gap = s.port.gap ∧
    (s.triggerOne k one).cap.block = s.cap.block ∧ (s.triggerOne k one).cap.offset = s.cap.offset ∧
    (s.triggerOne k one).cap.memory = s.cap.memory ∧ (s.triggerOne k one).cap.filling = s.cap.filling ∧
    (s.triggerOne k one).cap.completed = s.cap.completed := by
  simp only [State.triggerOne, Capture.modChannel]
  (repeat' split) <;> simp

@[simp] theorem State.giveTrigger_fixed (s : State) (k : TriggerKind) :
    (s.giveTrigger k).port.params = s.port.params ∧ (s.giveTrigger k).port.store = s.port.store ∧
    (s.giveTrigger k).port.fingerprint = s.port.fingerprint ∧
    (s.giveTrigger k).port.committed = s.port.committed ∧
    (s.giveTrigger k).port.station = s.port.station ∧
    (s.giveTrigger k).port.countStrap = s.port.countStrap ∧
    (s.giveTrigger k).port.enable = s.port.enable ∧ (s.giveTrigger k).port.staging = s.port.staging ∧
    (s.giveTrigger k).port.window = s.port.window ∧ (s.giveTrigger k).port.gap = s.port.gap ∧
    (s.giveTrigger k).cap.block = s.cap.block ∧ (s.giveTrigger k).cap.offset = s.cap.offset ∧
    (s.giveTrigger k).cap.memory = s.cap.memory ∧ (s.giveTrigger k).cap.filling = s.cap.filling ∧
    (s.giveTrigger k).cap.completed = s.cap.completed := by
  simp [State.giveTrigger]

@[simp] theorem State.setShare_fixed (s : State) :
    (s.setShare).dp.tripLevel = s.dp.tripLevel := by
  simp [State.setShare]

@[simp] theorem State.cutCommand_fixed (s : State) :
    (s.cutCommand).dp.tripLevel = s.dp.tripLevel := by
  simp [State.cutCommand]

@[simp] theorem State.setCharge_fixed (s : State) :
    (s.setCharge).en.full = s.en.full := by
  simp [State.setCharge]

@[simp] theorem State.leaveInjecting_fixed (s : State) :
    (s.leaveInjecting).det.qOn = s.det.qOn ∧ (s.leaveInjecting).det.qOff = s.det.qOff ∧
    (s.leaveInjecting).det.qJoin = s.det.qJoin := by
  simp [State.leaveInjecting]

@[simp] theorem State.setService_fixed (s : State) (t : ServiceState) :
    (s.setService t).det.qOn = s.det.qOn ∧ (s.setService t).det.qOff = s.det.qOff ∧
    (s.setService t).det.qJoin = s.det.qJoin ∧ (s.setService t).dp.tripLevel = s.dp.tripLevel ∧
    (s.setService t).en.full = s.en.full := by
  simp only [State.setService]
  (repeat' split) <;> simp

@[simp] theorem State.testReady_fixed (s : State) :
    (s.testReady).det.qOn = s.det.qOn ∧ (s.testReady).det.qOff = s.det.qOff ∧
    (s.testReady).det.qJoin = s.det.qJoin ∧ (s.testReady).dp.tripLevel = s.dp.tripLevel ∧
    (s.testReady).en.full = s.en.full := by
  simp only [State.testReady]
  (repeat' split) <;> simp

@[simp] theorem State.zeroMetric_fixed (s : State) :
    (s.zeroMetric).det.qOn = s.det.qOn ∧ (s.zeroMetric).det.qOff = s.det.qOff ∧
    (s.zeroMetric).det.qJoin = s.det.qJoin := by
  simp [State.zeroMetric]

@[simp] theorem State.emptyRing_fixed (s : State) :
    (s.emptyRing).det.qOn = s.det.qOn ∧ (s.emptyRing).det.qOff = s.det.qOff ∧
    (s.emptyRing).det.qJoin = s.det.qJoin ∧ (s.emptyRing).dp.tripLevel = s.dp.tripLevel ∧
    (s.emptyRing).en.full = s.en.full := by
  simp only [State.emptyRing]
  (repeat' split) <;> simp

@[simp] theorem State.makeRoom_fixed (s : State) :
    (s.makeRoom).port.params = s.port.params ∧ (s.makeRoom).port.store = s.port.store ∧
    (s.makeRoom).port.fingerprint = s.port.fingerprint ∧ (s.makeRoom).port.committed = s.port.committed ∧
    (s.makeRoom).port.station = s.port.station ∧ (s.makeRoom).port.countStrap = s.port.countStrap ∧
    (s.makeRoom).port.enable = s.port.enable ∧ (s.makeRoom).port.staging = s.port.staging ∧
    (s.makeRoom).port.window = s.port.window ∧ (s.makeRoom).port.gap = s.port.gap := by
  simp only [State.makeRoom]
  (repeat' split) <;> simp

@[simp] theorem State.openRecord_fixed (s : State) (o : Onset) :
    (s.openRecord o).port.params = s.port.params ∧ (s.openRecord o).port.store = s.port.store ∧
    (s.openRecord o).port.fingerprint = s.port.fingerprint ∧
    (s.openRecord o).port.committed = s.port.committed ∧ (s.openRecord o).port.station = s.port.station ∧
    (s.openRecord o).port.countStrap = s.port.countStrap ∧ (s.openRecord o).port.enable = s.port.enable ∧
    (s.openRecord o).port.staging = s.port.staging ∧ (s.openRecord o).port.window = s.port.window ∧
    (s.openRecord o).port.gap = s.port.gap := by
  simp [State.openRecord]

@[simp] theorem State.closeRecord_fixed (s : State) (out : EpisodeOutcome) :
    (s.closeRecord out).port.params = s.port.params ∧ (s.closeRecord out).port.store = s.port.store ∧
    (s.closeRecord out).port.fingerprint = s.port.fingerprint ∧
    (s.closeRecord out).port.committed = s.port.committed ∧
    (s.closeRecord out).port.station = s.port.station ∧
    (s.closeRecord out).port.countStrap = s.port.countStrap ∧
    (s.closeRecord out).port.enable = s.port.enable ∧ (s.closeRecord out).port.staging = s.port.staging ∧
    (s.closeRecord out).port.window = s.port.window ∧ (s.closeRecord out).port.gap = s.port.gap := by
  simp only [State.closeRecord]
  (repeat' split) <;> simp

@[simp] theorem State.unservedRecord_fixed (s : State) (o : Onset) :
    (s.unservedRecord o).port.params = s.port.params ∧ (s.unservedRecord o).port.store = s.port.store ∧
    (s.unservedRecord o).port.fingerprint = s.port.fingerprint ∧
    (s.unservedRecord o).port.committed = s.port.committed ∧
    (s.unservedRecord o).port.station = s.port.station ∧
    (s.unservedRecord o).port.countStrap = s.port.countStrap ∧
    (s.unservedRecord o).port.enable = s.port.enable ∧
    (s.unservedRecord o).port.staging = s.port.staging ∧
    (s.unservedRecord o).port.window = s.port.window ∧ (s.unservedRecord o).port.gap = s.port.gap := by
  simp [State.unservedRecord]

@[simp] theorem State.beginClosing_fixed (s : State) :
    (s.beginClosing).dp.tripLevel = s.dp.tripLevel := by
  simp [State.beginClosing]

@[simp] theorem State.beginHandback_fixed (s : State) (c : Cause) :
    (s.beginHandback c).port.params = s.port.params ∧ (s.beginHandback c).port.store = s.port.store ∧
    (s.beginHandback c).port.fingerprint = s.port.fingerprint ∧
    (s.beginHandback c).port.committed = s.port.committed ∧
    (s.beginHandback c).port.station = s.port.station ∧
    (s.beginHandback c).port.countStrap = s.port.countStrap ∧
    (s.beginHandback c).port.enable = s.port.enable ∧ (s.beginHandback c).port.staging = s.port.staging ∧
    (s.beginHandback c).port.window = s.port.window ∧ (s.beginHandback c).port.gap = s.port.gap ∧
    (s.beginHandback c).det.qOn = s.det.qOn ∧ (s.beginHandback c).det.qOff = s.det.qOff ∧
    (s.beginHandback c).det.qJoin = s.det.qJoin ∧ (s.beginHandback c).dp.tripLevel = s.dp.tripLevel ∧
    (s.beginHandback c).en.full = s.en.full ∧ (s.beginHandback c).cap.block = s.cap.block ∧
    (s.beginHandback c).cap.offset = s.cap.offset ∧ (s.beginHandback c).cap.memory = s.cap.memory ∧
    (s.beginHandback c).cap.filling = s.cap.filling ∧ (s.beginHandback c).cap.completed = s.cap.completed := by
  simp only [State.beginHandback]
  (repeat' split) <;> simp

@[simp] theorem State.takeCause_fixed (s : State) (c : Cause) :
    (s.takeCause c).port.params = s.port.params ∧ (s.takeCause c).port.store = s.port.store ∧
    (s.takeCause c).port.fingerprint = s.port.fingerprint ∧
    (s.takeCause c).port.committed = s.port.committed ∧ (s.takeCause c).port.station = s.port.station ∧
    (s.takeCause c).port.countStrap = s.port.countStrap ∧ (s.takeCause c).port.enable = s.port.enable ∧
    (s.takeCause c).port.staging = s.port.staging ∧ (s.takeCause c).port.window = s.port.window ∧
    (s.takeCause c).port.gap = s.port.gap ∧ (s.takeCause c).det.qOn = s.det.qOn ∧
    (s.takeCause c).det.qOff = s.det.qOff ∧ (s.takeCause c).det.qJoin = s.det.qJoin ∧
    (s.takeCause c).dp.tripLevel = s.dp.tripLevel ∧ (s.takeCause c).en.full = s.en.full ∧
    (s.takeCause c).cap.block = s.cap.block ∧ (s.takeCause c).cap.offset = s.cap.offset ∧
    (s.takeCause c).cap.memory = s.cap.memory ∧ (s.takeCause c).cap.filling = s.cap.filling ∧
    (s.takeCause c).cap.completed = s.cap.completed := by
  simp only [State.takeCause]
  (repeat' split) <;> simp

@[simp] theorem State.recordFault_fixed (s : State) (k : FaultKind) (p : Option Phase) (d : Option Nat) :
    (s.recordFault k p d).port.params = s.port.params ∧ (s.recordFault k p d).port.store = s.port.store ∧
    (s.recordFault k p d).port.fingerprint = s.port.fingerprint ∧
    (s.recordFault k p d).port.committed = s.port.committed ∧
    (s.recordFault k p d).port.station = s.port.station ∧
    (s.recordFault k p d).port.countStrap = s.port.countStrap ∧
    (s.recordFault k p d).port.enable = s.port.enable ∧
    (s.recordFault k p d).port.staging = s.port.staging ∧
    (s.recordFault k p d).port.window = s.port.window ∧ (s.recordFault k p d).port.gap = s.port.gap ∧
    (s.recordFault k p d).cap.block = s.cap.block ∧ (s.recordFault k p d).cap.offset = s.cap.offset ∧
    (s.recordFault k p d).cap.memory = s.cap.memory ∧ (s.recordFault k p d).cap.filling = s.cap.filling ∧
    (s.recordFault k p d).cap.completed = s.cap.completed := by
  simp only [State.recordFault]
  (repeat' split) <;> simp

@[simp] theorem State.tripBypass_fixed (s : State) (k : FaultKind) :
    (s.tripBypass k).dp.tripLevel = s.dp.tripLevel := by
  simp only [State.tripBypass]
  (repeat' split) <;> simp

@[simp] theorem State.abortRecord_fixed (s : State) (k : FaultKind) :
    (s.abortRecord k).port.params = s.port.params ∧ (s.abortRecord k).port.store = s.port.store ∧
    (s.abortRecord k).port.fingerprint = s.port.fingerprint ∧
    (s.abortRecord k).port.committed = s.port.committed ∧
    (s.abortRecord k).port.station = s.port.station ∧
    (s.abortRecord k).port.countStrap = s.port.countStrap ∧
    (s.abortRecord k).port.enable = s.port.enable ∧ (s.abortRecord k).port.staging = s.port.staging ∧
    (s.abortRecord k).port.window = s.port.window ∧ (s.abortRecord k).port.gap = s.port.gap := by
  simp only [State.abortRecord]
  (repeat' split) <;> simp

@[simp] theorem State.enterLockout_fixed (s : State) (k : FaultKind) :
    (s.enterLockout k).port.params = s.port.params ∧ (s.enterLockout k).port.store = s.port.store ∧
    (s.enterLockout k).port.fingerprint = s.port.fingerprint ∧
    (s.enterLockout k).port.committed = s.port.committed ∧
    (s.enterLockout k).port.station = s.port.station ∧
    (s.enterLockout k).port.countStrap = s.port.countStrap ∧
    (s.enterLockout k).port.enable = s.port.enable ∧ (s.enterLockout k).port.staging = s.port.staging ∧
    (s.enterLockout k).port.window = s.port.window ∧ (s.enterLockout k).port.gap = s.port.gap ∧
    (s.enterLockout k).det.qOn = s.det.qOn ∧ (s.enterLockout k).det.qOff = s.det.qOff ∧
    (s.enterLockout k).det.qJoin = s.det.qJoin ∧ (s.enterLockout k).dp.tripLevel = s.dp.tripLevel ∧
    (s.enterLockout k).en.full = s.en.full := by
  simp only [State.enterLockout]
  (repeat' split) <;> simp

@[simp] theorem State.trip_fixed (s : State) (k : FaultKind) :
    (s.trip k).port.params = s.port.params ∧ (s.trip k).port.store = s.port.store ∧
    (s.trip k).port.fingerprint = s.port.fingerprint ∧ (s.trip k).port.committed = s.port.committed ∧
    (s.trip k).port.station = s.port.station ∧ (s.trip k).port.countStrap = s.port.countStrap ∧
    (s.trip k).port.enable = s.port.enable ∧ (s.trip k).port.staging = s.port.staging ∧
    (s.trip k).port.window = s.port.window ∧ (s.trip k).port.gap = s.port.gap ∧
    (s.trip k).det.qOn = s.det.qOn ∧ (s.trip k).det.qOff = s.det.qOff ∧
    (s.trip k).det.qJoin = s.det.qJoin ∧ (s.trip k).dp.tripLevel = s.dp.tripLevel ∧
    (s.trip k).en.full = s.en.full := by
  simp only [State.trip]
  (repeat' split) <;> simp

@[simp] theorem State.report_fixed (s : State) (k : FaultKind) (p : Option Phase) (d : Option Nat) :
    (s.report k p d).port.params = s.port.params ∧ (s.report k p d).port.store = s.port.store ∧
    (s.report k p d).port.fingerprint = s.port.fingerprint ∧
    (s.report k p d).port.committed = s.port.committed ∧ (s.report k p d).port.station = s.port.station ∧
    (s.report k p d).port.countStrap = s.port.countStrap ∧ (s.report k p d).port.enable = s.port.enable ∧
    (s.report k p d).port.staging = s.port.staging ∧ (s.report k p d).port.window = s.port.window ∧
    (s.report k p d).port.gap = s.port.gap ∧ (s.report k p d).det.qOn = s.det.qOn ∧
    (s.report k p d).det.qOff = s.det.qOff ∧ (s.report k p d).det.qJoin = s.det.qJoin ∧
    (s.report k p d).dp.tripLevel = s.dp.tripLevel ∧ (s.report k p d).en.full = s.en.full ∧
    (s.report k p d).cap.block = s.cap.block ∧ (s.report k p d).cap.offset = s.cap.offset ∧
    (s.report k p d).cap.memory = s.cap.memory ∧ (s.report k p d).cap.filling = s.cap.filling ∧
    (s.report k p d).cap.completed = s.cap.completed := by
  simp only [State.report]
  (repeat' split) <;> simp

@[simp] theorem State.countCorrected_fixed (s : State) :
    (s.countCorrected).port.params = s.port.params ∧ (s.countCorrected).port.store = s.port.store ∧
    (s.countCorrected).port.fingerprint = s.port.fingerprint ∧
    (s.countCorrected).port.committed = s.port.committed ∧
    (s.countCorrected).port.station = s.port.station ∧
    (s.countCorrected).port.countStrap = s.port.countStrap ∧
    (s.countCorrected).port.enable = s.port.enable ∧ (s.countCorrected).port.staging = s.port.staging ∧
    (s.countCorrected).port.window = s.port.window ∧ (s.countCorrected).port.gap = s.port.gap := by
  simp [State.countCorrected]

@[simp] theorem State.countCorrections_fixed (s : State) (n : Nat) :
    (s.countCorrections n).port.params = s.port.params ∧
    (s.countCorrections n).port.store = s.port.store ∧
    (s.countCorrections n).port.fingerprint = s.port.fingerprint ∧
    (s.countCorrections n).port.committed = s.port.committed ∧
    (s.countCorrections n).port.station = s.port.station ∧
    (s.countCorrections n).port.countStrap = s.port.countStrap ∧
    (s.countCorrections n).port.enable = s.port.enable ∧
    (s.countCorrections n).port.staging = s.port.staging ∧
    (s.countCorrections n).port.window = s.port.window ∧ (s.countCorrections n).port.gap = s.port.gap := by
  induction n generalizing s with
  | zero => simp [State.countCorrections]
  | succ n ih => simp [State.countCorrections, ih]

@[simp] theorem State.templateFault_fixed (s : State) (p : Phase) :
    (s.templateFault p).port.params = s.port.params ∧ (s.templateFault p).port.store = s.port.store ∧
    (s.templateFault p).port.fingerprint = s.port.fingerprint ∧
    (s.templateFault p).port.committed = s.port.committed ∧
    (s.templateFault p).port.station = s.port.station ∧
    (s.templateFault p).port.countStrap = s.port.countStrap ∧
    (s.templateFault p).port.enable = s.port.enable ∧ (s.templateFault p).port.staging = s.port.staging ∧
    (s.templateFault p).port.window = s.port.window ∧ (s.templateFault p).port.gap = s.port.gap ∧
    (s.templateFault p).det.qOn = s.det.qOn ∧ (s.templateFault p).det.qOff = s.det.qOff ∧
    (s.templateFault p).det.qJoin = s.det.qJoin ∧ (s.templateFault p).dp.tripLevel = s.dp.tripLevel ∧
    (s.templateFault p).en.full = s.en.full ∧ (s.templateFault p).cap.block = s.cap.block ∧
    (s.templateFault p).cap.offset = s.cap.offset ∧ (s.templateFault p).cap.memory = s.cap.memory ∧
    (s.templateFault p).cap.filling = s.cap.filling ∧ (s.templateFault p).cap.completed = s.cap.completed := by
  simp [State.templateFault]

@[simp] theorem State.openEpisode_fixed (s : State) (o : Onset) :
    (s.openEpisode o).port.params = s.port.params ∧ (s.openEpisode o).port.store = s.port.store ∧
    (s.openEpisode o).port.fingerprint = s.port.fingerprint ∧
    (s.openEpisode o).port.committed = s.port.committed ∧
    (s.openEpisode o).port.station = s.port.station ∧
    (s.openEpisode o).port.countStrap = s.port.countStrap ∧
    (s.openEpisode o).port.enable = s.port.enable ∧ (s.openEpisode o).port.staging = s.port.staging ∧
    (s.openEpisode o).port.window = s.port.window ∧ (s.openEpisode o).port.gap = s.port.gap ∧
    (s.openEpisode o).det.qOn = s.det.qOn ∧ (s.openEpisode o).det.qOff = s.det.qOff ∧
    (s.openEpisode o).det.qJoin = s.det.qJoin ∧ (s.openEpisode o).dp.tripLevel = s.dp.tripLevel ∧
    (s.openEpisode o).en.full = s.en.full ∧ (s.openEpisode o).cap.block = s.cap.block ∧
    (s.openEpisode o).cap.offset = s.cap.offset ∧ (s.openEpisode o).cap.memory = s.cap.memory ∧
    (s.openEpisode o).cap.filling = s.cap.filling ∧ (s.openEpisode o).cap.completed = s.cap.completed := by
  simp only [State.openEpisode]
  (repeat' split) <;> simp

@[simp] theorem State.takeOnset_fixed (s : State) (o : Onset) :
    (s.takeOnset o).port.params = s.port.params ∧ (s.takeOnset o).port.store = s.port.store ∧
    (s.takeOnset o).port.fingerprint = s.port.fingerprint ∧
    (s.takeOnset o).port.committed = s.port.committed ∧ (s.takeOnset o).port.station = s.port.station ∧
    (s.takeOnset o).port.countStrap = s.port.countStrap ∧ (s.takeOnset o).port.enable = s.port.enable ∧
    (s.takeOnset o).port.staging = s.port.staging ∧ (s.takeOnset o).port.window = s.port.window ∧
    (s.takeOnset o).port.gap = s.port.gap ∧ (s.takeOnset o).det.qOn = s.det.qOn ∧
    (s.takeOnset o).det.qOff = s.det.qOff ∧ (s.takeOnset o).det.qJoin = s.det.qJoin ∧
    (s.takeOnset o).dp.tripLevel = s.dp.tripLevel ∧ (s.takeOnset o).en.full = s.en.full ∧
    (s.takeOnset o).cap.block = s.cap.block ∧ (s.takeOnset o).cap.offset = s.cap.offset ∧
    (s.takeOnset o).cap.memory = s.cap.memory ∧ (s.takeOnset o).cap.filling = s.cap.filling ∧
    (s.takeOnset o).cap.completed = s.cap.completed := by
  simp only [State.takeOnset]
  (repeat' split) <;> simp

@[simp] theorem State.changeLock_fixed (s : State) (l : LockState) :
    (s.changeLock l).port.params = s.port.params ∧ (s.changeLock l).port.store = s.port.store ∧
    (s.changeLock l).port.fingerprint = s.port.fingerprint ∧
    (s.changeLock l).port.committed = s.port.committed ∧ (s.changeLock l).port.station = s.port.station ∧
    (s.changeLock l).port.countStrap = s.port.countStrap ∧ (s.changeLock l).port.enable = s.port.enable ∧
    (s.changeLock l).port.staging = s.port.staging ∧ (s.changeLock l).port.window = s.port.window ∧
    (s.changeLock l).port.gap = s.port.gap := by
  simp [State.changeLock]

@[simp] theorem State.searchCrossing_fixed (s : State) (x : Stamp) :
    (s.searchCrossing x).port.params = s.port.params ∧ (s.searchCrossing x).port.store = s.port.store ∧
    (s.searchCrossing x).port.fingerprint = s.port.fingerprint ∧
    (s.searchCrossing x).port.committed = s.port.committed ∧
    (s.searchCrossing x).port.station = s.port.station ∧
    (s.searchCrossing x).port.countStrap = s.port.countStrap ∧
    (s.searchCrossing x).port.enable = s.port.enable ∧
    (s.searchCrossing x).port.staging = s.port.staging ∧
    (s.searchCrossing x).port.window = s.port.window ∧ (s.searchCrossing x).port.gap = s.port.gap := by
  simp only [State.searchCrossing]
  (repeat' split) <;> simp

@[simp] theorem State.enterCoast_fixed (s : State) :
    (s.enterCoast).port.params = s.port.params ∧ (s.enterCoast).port.store = s.port.store ∧
    (s.enterCoast).port.fingerprint = s.port.fingerprint ∧
    (s.enterCoast).port.committed = s.port.committed ∧ (s.enterCoast).port.station = s.port.station ∧
    (s.enterCoast).port.countStrap = s.port.countStrap ∧ (s.enterCoast).port.enable = s.port.enable ∧
    (s.enterCoast).port.staging = s.port.staging ∧ (s.enterCoast).port.window = s.port.window ∧
    (s.enterCoast).port.gap = s.port.gap ∧ (s.enterCoast).cap.block = s.cap.block ∧
    (s.enterCoast).cap.offset = s.cap.offset ∧ (s.enterCoast).cap.memory = s.cap.memory ∧
    (s.enterCoast).cap.filling = s.cap.filling ∧ (s.enterCoast).cap.completed = s.cap.completed := by
  simp [State.enterCoast]

@[simp] theorem State.lockedCrossing_fixed (s : State) (x : Stamp) :
    (s.lockedCrossing x).port.params = s.port.params ∧ (s.lockedCrossing x).port.store = s.port.store ∧
    (s.lockedCrossing x).port.fingerprint = s.port.fingerprint ∧
    (s.lockedCrossing x).port.committed = s.port.committed ∧
    (s.lockedCrossing x).port.station = s.port.station ∧
    (s.lockedCrossing x).port.countStrap = s.port.countStrap ∧
    (s.lockedCrossing x).port.enable = s.port.enable ∧
    (s.lockedCrossing x).port.staging = s.port.staging ∧
    (s.lockedCrossing x).port.window = s.port.window ∧ (s.lockedCrossing x).port.gap = s.port.gap ∧
    (s.lockedCrossing x).cap.block = s.cap.block ∧ (s.lockedCrossing x).cap.offset = s.cap.offset ∧
    (s.lockedCrossing x).cap.memory = s.cap.memory ∧ (s.lockedCrossing x).cap.filling = s.cap.filling ∧
    (s.lockedCrossing x).cap.completed = s.cap.completed := by
  simp only [State.lockedCrossing]
  (repeat' split) <;> simp

@[simp] theorem State.coastCrossing_fixed (s : State) (x : Stamp) :
    (s.coastCrossing x).port.params = s.port.params ∧ (s.coastCrossing x).port.store = s.port.store ∧
    (s.coastCrossing x).port.fingerprint = s.port.fingerprint ∧
    (s.coastCrossing x).port.committed = s.port.committed ∧
    (s.coastCrossing x).port.station = s.port.station ∧
    (s.coastCrossing x).port.countStrap = s.port.countStrap ∧
    (s.coastCrossing x).port.enable = s.port.enable ∧ (s.coastCrossing x).port.staging = s.port.staging ∧
    (s.coastCrossing x).port.window = s.port.window ∧ (s.coastCrossing x).port.gap = s.port.gap := by
  simp only [State.coastCrossing]
  (repeat' split) <;> simp

@[simp] theorem State.takeCrossing_fixed (s : State) (x : Stamp) :
    (s.takeCrossing x).port.params = s.port.params ∧ (s.takeCrossing x).port.store = s.port.store ∧
    (s.takeCrossing x).port.fingerprint = s.port.fingerprint ∧
    (s.takeCrossing x).port.committed = s.port.committed ∧
    (s.takeCrossing x).port.station = s.port.station ∧
    (s.takeCrossing x).port.countStrap = s.port.countStrap ∧
    (s.takeCrossing x).port.enable = s.port.enable ∧ (s.takeCrossing x).port.staging = s.port.staging ∧
    (s.takeCrossing x).port.window = s.port.window ∧ (s.takeCrossing x).port.gap = s.port.gap ∧
    (s.takeCrossing x).cap.block = s.cap.block ∧ (s.takeCrossing x).cap.offset = s.cap.offset ∧
    (s.takeCrossing x).cap.memory = s.cap.memory ∧ (s.takeCrossing x).cap.filling = s.cap.filling ∧
    (s.takeCrossing x).cap.completed = s.cap.completed := by
  simp only [State.takeCrossing]
  (repeat' split) <;> simp

@[simp] theorem State.testWindow_fixed (s : State) :
    (s.testWindow).port.params = s.port.params ∧ (s.testWindow).port.store = s.port.store ∧
    (s.testWindow).port.fingerprint = s.port.fingerprint ∧
    (s.testWindow).port.committed = s.port.committed ∧ (s.testWindow).port.station = s.port.station ∧
    (s.testWindow).port.countStrap = s.port.countStrap ∧ (s.testWindow).port.enable = s.port.enable ∧
    (s.testWindow).port.staging = s.port.staging ∧ (s.testWindow).port.window = s.port.window ∧
    (s.testWindow).port.gap = s.port.gap ∧ (s.testWindow).cap.block = s.cap.block ∧
    (s.testWindow).cap.offset = s.cap.offset ∧ (s.testWindow).cap.memory = s.cap.memory ∧
    (s.testWindow).cap.filling = s.cap.filling ∧ (s.testWindow).cap.completed = s.cap.completed := by
  simp only [State.testWindow]
  (repeat' split) <;> simp

@[simp] theorem State.lockSample_fixed (s : State) :
    (s.lockSample).port.params = s.port.params ∧ (s.lockSample).port.store = s.port.store ∧
    (s.lockSample).port.fingerprint = s.port.fingerprint ∧
    (s.lockSample).port.committed = s.port.committed ∧ (s.lockSample).port.station = s.port.station ∧
    (s.lockSample).port.countStrap = s.port.countStrap ∧ (s.lockSample).port.enable = s.port.enable ∧
    (s.lockSample).port.staging = s.port.staging ∧ (s.lockSample).port.window = s.port.window ∧
    (s.lockSample).port.gap = s.port.gap ∧ (s.lockSample).cap.block = s.cap.block ∧
    (s.lockSample).cap.offset = s.cap.offset ∧ (s.lockSample).cap.memory = s.cap.memory ∧
    (s.lockSample).cap.filling = s.cap.filling ∧ (s.lockSample).cap.completed = s.cap.completed := by
  simp only [State.lockSample]
  (repeat' split) <;> simp

@[simp] theorem State.enterSearch_fixed (s : State) :
    (s.enterSearch).port.params = s.port.params ∧ (s.enterSearch).port.store = s.port.store ∧
    (s.enterSearch).port.fingerprint = s.port.fingerprint ∧
    (s.enterSearch).port.committed = s.port.committed ∧ (s.enterSearch).port.station = s.port.station ∧
    (s.enterSearch).port.countStrap = s.port.countStrap ∧ (s.enterSearch).port.enable = s.port.enable ∧
    (s.enterSearch).port.staging = s.port.staging ∧ (s.enterSearch).port.window = s.port.window ∧
    (s.enterSearch).port.gap = s.port.gap ∧ (s.enterSearch).det.qOn = s.det.qOn ∧
    (s.enterSearch).det.qOff = s.det.qOff ∧ (s.enterSearch).det.qJoin = s.det.qJoin ∧
    (s.enterSearch).dp.tripLevel = s.dp.tripLevel ∧ (s.enterSearch).en.full = s.en.full ∧
    (s.enterSearch).cap.block = s.cap.block ∧ (s.enterSearch).cap.offset = s.cap.offset ∧
    (s.enterSearch).cap.memory = s.cap.memory ∧ (s.enterSearch).cap.filling = s.cap.filling ∧
    (s.enterSearch).cap.completed = s.cap.completed := by
  simp [State.enterSearch]

@[simp] theorem State.lockBoundary_fixed (s : State) :
    (s.lockBoundary).port.params = s.port.params ∧ (s.lockBoundary).port.store = s.port.store ∧
    (s.lockBoundary).port.fingerprint = s.port.fingerprint ∧
    (s.lockBoundary).port.committed = s.port.committed ∧ (s.lockBoundary).port.station = s.port.station ∧
    (s.lockBoundary).port.countStrap = s.port.countStrap ∧ (s.lockBoundary).port.enable = s.port.enable ∧
    (s.lockBoundary).port.staging = s.port.staging ∧ (s.lockBoundary).port.window = s.port.window ∧
    (s.lockBoundary).port.gap = s.port.gap ∧ (s.lockBoundary).det.qOn = s.det.qOn ∧
    (s.lockBoundary).det.qOff = s.det.qOff ∧ (s.lockBoundary).det.qJoin = s.det.qJoin ∧
    (s.lockBoundary).dp.tripLevel = s.dp.tripLevel ∧ (s.lockBoundary).en.full = s.en.full ∧
    (s.lockBoundary).cap.block = s.cap.block ∧ (s.lockBoundary).cap.offset = s.cap.offset ∧
    (s.lockBoundary).cap.memory = s.cap.memory ∧ (s.lockBoundary).cap.filling = s.cap.filling ∧
    (s.lockBoundary).cap.completed = s.cap.completed := by
  simp only [State.lockBoundary]
  (repeat' split) <;> simp

@[simp] theorem State.becomeValid_fixed (s : State) :
    (s.becomeValid).det.qOn = s.det.qOn ∧ (s.becomeValid).det.qOff = s.det.qOff ∧
    (s.becomeValid).det.qJoin = s.det.qJoin ∧ (s.becomeValid).dp.tripLevel = s.dp.tripLevel ∧
    (s.becomeValid).en.full = s.en.full := by
  simp [State.becomeValid]

@[simp] theorem State.appendCycle_fixed (s : State) :
    (s.appendCycle).port.params = s.port.params ∧ (s.appendCycle).port.store = s.port.store ∧
    (s.appendCycle).port.fingerprint = s.port.fingerprint ∧
    (s.appendCycle).port.committed = s.port.committed ∧ (s.appendCycle).port.station = s.port.station ∧
    (s.appendCycle).port.countStrap = s.port.countStrap ∧ (s.appendCycle).port.enable = s.port.enable ∧
    (s.appendCycle).port.staging = s.port.staging ∧ (s.appendCycle).port.window = s.port.window ∧
    (s.appendCycle).port.gap = s.port.gap ∧ (s.appendCycle).det.qOn = s.det.qOn ∧
    (s.appendCycle).det.qOff = s.det.qOff ∧ (s.appendCycle).det.qJoin = s.det.qJoin ∧
    (s.appendCycle).dp.tripLevel = s.dp.tripLevel ∧ (s.appendCycle).en.full = s.en.full ∧
    (s.appendCycle).cap.block = s.cap.block ∧ (s.appendCycle).cap.offset = s.cap.offset ∧
    (s.appendCycle).cap.memory = s.cap.memory ∧ (s.appendCycle).cap.filling = s.cap.filling ∧
    (s.appendCycle).cap.completed = s.cap.completed := by
  simp only [State.appendCycle]
  (repeat' split) <;> simp

@[simp] theorem State.templateBoundary_fixed (s : State) (h : Bool) (lx : PerPhase Nat) :
    (s.templateBoundary h lx).port.params = s.port.params ∧
    (s.templateBoundary h lx).port.store = s.port.store ∧
    (s.templateBoundary h lx).port.fingerprint = s.port.fingerprint ∧
    (s.templateBoundary h lx).port.committed = s.port.committed ∧
    (s.templateBoundary h lx).port.station = s.port.station ∧
    (s.templateBoundary h lx).port.countStrap = s.port.countStrap ∧
    (s.templateBoundary h lx).port.enable = s.port.enable ∧
    (s.templateBoundary h lx).port.staging = s.port.staging ∧
    (s.templateBoundary h lx).port.window = s.port.window ∧
    (s.templateBoundary h lx).port.gap = s.port.gap ∧ (s.templateBoundary h lx).det.qOn = s.det.qOn ∧
    (s.templateBoundary h lx).det.qOff = s.det.qOff ∧ (s.templateBoundary h lx).det.qJoin = s.det.qJoin ∧
    (s.templateBoundary h lx).dp.tripLevel = s.dp.tripLevel ∧
    (s.templateBoundary h lx).en.full = s.en.full ∧ (s.templateBoundary h lx).cap.block = s.cap.block ∧
    (s.templateBoundary h lx).cap.offset = s.cap.offset ∧
    (s.templateBoundary h lx).cap.memory = s.cap.memory ∧
    (s.templateBoundary h lx).cap.filling = s.cap.filling ∧
    (s.templateBoundary h lx).cap.completed = s.cap.completed := by
  simp only [State.templateBoundary]
  (repeat' split) <;> simp

@[simp] theorem State.takeDeviation_fixed (s : State) (v : PerPhase Int) :
    (s.takeDeviation v).det.qOn = s.det.qOn ∧ (s.takeDeviation v).det.qOff = s.det.qOff ∧
    (s.takeDeviation v).det.qJoin = s.det.qJoin := by
  simp [State.takeDeviation]

@[simp] theorem State.takeMetric_fixed (s : State) (r : SampleRead) :
    (s.takeMetric r).det.qOn = s.det.qOn ∧ (s.takeMetric r).det.qOff = s.det.qOff ∧
    (s.takeMetric r).det.qJoin = s.det.qJoin := by
  simp only [State.takeMetric]
  (repeat' split) <;> simp

@[simp] theorem State.testOnset_fixed (s : State) :
    (s.testOnset).port.params = s.port.params ∧ (s.testOnset).port.store = s.port.store ∧
    (s.testOnset).port.fingerprint = s.port.fingerprint ∧
    (s.testOnset).port.committed = s.port.committed ∧ (s.testOnset).port.station = s.port.station ∧
    (s.testOnset).port.countStrap = s.port.countStrap ∧ (s.testOnset).port.enable = s.port.enable ∧
    (s.testOnset).port.staging = s.port.staging ∧ (s.testOnset).port.window = s.port.window ∧
    (s.testOnset).port.gap = s.port.gap ∧ (s.testOnset).det.qOn = s.det.qOn ∧
    (s.testOnset).det.qOff = s.det.qOff ∧ (s.testOnset).det.qJoin = s.det.qJoin ∧
    (s.testOnset).dp.tripLevel = s.dp.tripLevel ∧ (s.testOnset).en.full = s.en.full ∧
    (s.testOnset).cap.block = s.cap.block ∧ (s.testOnset).cap.offset = s.cap.offset ∧
    (s.testOnset).cap.memory = s.cap.memory ∧ (s.testOnset).cap.filling = s.cap.filling ∧
    (s.testOnset).cap.completed = s.cap.completed := by
  simp only [State.testOnset]
  (repeat' split) <;> simp

@[simp] theorem State.onsetNotice_fixed (s : State) :
    (s.onsetNotice).port.params = s.port.params ∧ (s.onsetNotice).port.store = s.port.store ∧
    (s.onsetNotice).port.fingerprint = s.port.fingerprint ∧
    (s.onsetNotice).port.committed = s.port.committed ∧ (s.onsetNotice).port.station = s.port.station ∧
    (s.onsetNotice).port.countStrap = s.port.countStrap ∧ (s.onsetNotice).port.enable = s.port.enable ∧
    (s.onsetNotice).port.staging = s.port.staging ∧ (s.onsetNotice).port.window = s.port.window ∧
    (s.onsetNotice).port.gap = s.port.gap ∧ (s.onsetNotice).det.qOn = s.det.qOn ∧
    (s.onsetNotice).det.qOff = s.det.qOff ∧ (s.onsetNotice).det.qJoin = s.det.qJoin ∧
    (s.onsetNotice).dp.tripLevel = s.dp.tripLevel ∧ (s.onsetNotice).en.full = s.en.full ∧
    (s.onsetNotice).cap.block = s.cap.block ∧ (s.onsetNotice).cap.offset = s.cap.offset ∧
    (s.onsetNotice).cap.memory = s.cap.memory ∧ (s.onsetNotice).cap.filling = s.cap.filling ∧
    (s.onsetNotice).cap.completed = s.cap.completed := by
  simp only [State.onsetNotice]
  (repeat' split) <;> simp

@[simp] theorem State.restoreNotice_fixed (s : State) :
    (s.restoreNotice).det.qOn = s.det.qOn ∧ (s.restoreNotice).det.qOff = s.det.qOff ∧
    (s.restoreNotice).det.qJoin = s.det.qJoin := by
  simp only [State.restoreNotice]
  (repeat' split) <;> simp

@[simp] theorem State.detectorBoundary_fixed (s : State) (q : Bool) :
    (s.detectorBoundary q).port.params = s.port.params ∧
    (s.detectorBoundary q).port.store = s.port.store ∧
    (s.detectorBoundary q).port.fingerprint = s.port.fingerprint ∧
    (s.detectorBoundary q).port.committed = s.port.committed ∧
    (s.detectorBoundary q).port.station = s.port.station ∧
    (s.detectorBoundary q).port.countStrap = s.port.countStrap ∧
    (s.detectorBoundary q).port.enable = s.port.enable ∧
    (s.detectorBoundary q).port.staging = s.port.staging ∧
    (s.detectorBoundary q).port.window = s.port.window ∧ (s.detectorBoundary q).port.gap = s.port.gap ∧
    (s.detectorBoundary q).det.qOn = s.det.qOn ∧ (s.detectorBoundary q).det.qOff = s.det.qOff ∧
    (s.detectorBoundary q).det.qJoin = s.det.qJoin ∧
    (s.detectorBoundary q).dp.tripLevel = s.dp.tripLevel ∧ (s.detectorBoundary q).en.full = s.en.full ∧
    (s.detectorBoundary q).cap.block = s.cap.block ∧ (s.detectorBoundary q).cap.offset = s.cap.offset ∧
    (s.detectorBoundary q).cap.memory = s.cap.memory ∧
    (s.detectorBoundary q).cap.filling = s.cap.filling ∧
    (s.detectorBoundary q).cap.completed = s.cap.completed := by
  simp only [State.detectorBoundary]
  (repeat' split) <;> simp

@[simp] theorem State.takeReonset_fixed (s : State) :
    (s.takeReonset).port.params = s.port.params ∧ (s.takeReonset).port.store = s.port.store ∧
    (s.takeReonset).port.fingerprint = s.port.fingerprint ∧
    (s.takeReonset).port.committed = s.port.committed ∧ (s.takeReonset).port.station = s.port.station ∧
    (s.takeReonset).port.countStrap = s.port.countStrap ∧ (s.takeReonset).port.enable = s.port.enable ∧
    (s.takeReonset).port.staging = s.port.staging ∧ (s.takeReonset).port.window = s.port.window ∧
    (s.takeReonset).port.gap = s.port.gap ∧ (s.takeReonset).det.qOn = s.det.qOn ∧
    (s.takeReonset).det.qOff = s.det.qOff ∧ (s.takeReonset).det.qJoin = s.det.qJoin ∧
    (s.takeReonset).dp.tripLevel = s.dp.tripLevel ∧ (s.takeReonset).en.full = s.en.full ∧
    (s.takeReonset).cap.block = s.cap.block ∧ (s.takeReonset).cap.offset = s.cap.offset ∧
    (s.takeReonset).cap.memory = s.cap.memory ∧ (s.takeReonset).cap.filling = s.cap.filling ∧
    (s.takeReonset).cap.completed = s.cap.completed := by
  simp only [State.takeReonset]
  (repeat' split) <;> simp

@[simp] theorem State.confirmClose_fixed (s : State) :
    (s.confirmClose).port.params = s.port.params ∧ (s.confirmClose).port.store = s.port.store ∧
    (s.confirmClose).port.fingerprint = s.port.fingerprint ∧
    (s.confirmClose).port.committed = s.port.committed ∧ (s.confirmClose).port.station = s.port.station ∧
    (s.confirmClose).port.countStrap = s.port.countStrap ∧ (s.confirmClose).port.enable = s.port.enable ∧
    (s.confirmClose).port.staging = s.port.staging ∧ (s.confirmClose).port.window = s.port.window ∧
    (s.confirmClose).port.gap = s.port.gap ∧ (s.confirmClose).det.qOn = s.det.qOn ∧
    (s.confirmClose).det.qOff = s.det.qOff ∧ (s.confirmClose).det.qJoin = s.det.qJoin ∧
    (s.confirmClose).dp.tripLevel = s.dp.tripLevel ∧ (s.confirmClose).en.full = s.en.full ∧
    (s.confirmClose).cap.block = s.cap.block ∧ (s.confirmClose).cap.offset = s.cap.offset ∧
    (s.confirmClose).cap.memory = s.cap.memory ∧ (s.confirmClose).cap.filling = s.cap.filling ∧
    (s.confirmClose).cap.completed = s.cap.completed := by
  simp only [State.confirmClose]
  (repeat' split) <;> simp

@[simp] theorem State.testOpening_fixed (s : State) :
    (s.testOpening).port.params = s.port.params ∧ (s.testOpening).port.store = s.port.store ∧
    (s.testOpening).port.fingerprint = s.port.fingerprint ∧
    (s.testOpening).port.committed = s.port.committed ∧ (s.testOpening).port.station = s.port.station ∧
    (s.testOpening).port.countStrap = s.port.countStrap ∧ (s.testOpening).port.enable = s.port.enable ∧
    (s.testOpening).port.staging = s.port.staging ∧ (s.testOpening).port.window = s.port.window ∧
    (s.testOpening).port.gap = s.port.gap ∧ (s.testOpening).det.qOn = s.det.qOn ∧
    (s.testOpening).det.qOff = s.det.qOff ∧ (s.testOpening).det.qJoin = s.det.qJoin ∧
    (s.testOpening).dp.tripLevel = s.dp.tripLevel ∧ (s.testOpening).en.full = s.en.full ∧
    (s.testOpening).cap.block = s.cap.block ∧ (s.testOpening).cap.offset = s.cap.offset ∧
    (s.testOpening).cap.memory = s.cap.memory ∧ (s.testOpening).cap.filling = s.cap.filling ∧
    (s.testOpening).cap.completed = s.cap.completed := by
  simp only [State.testOpening]
  (repeat' split) <;> simp

@[simp] theorem State.reportCloseFail_fixed (s : State) :
    (s.reportCloseFail).port.params = s.port.params ∧ (s.reportCloseFail).port.store = s.port.store ∧
    (s.reportCloseFail).port.fingerprint = s.port.fingerprint ∧
    (s.reportCloseFail).port.committed = s.port.committed ∧
    (s.reportCloseFail).port.station = s.port.station ∧
    (s.reportCloseFail).port.countStrap = s.port.countStrap ∧
    (s.reportCloseFail).port.enable = s.port.enable ∧ (s.reportCloseFail).port.staging = s.port.staging ∧
    (s.reportCloseFail).port.window = s.port.window ∧ (s.reportCloseFail).port.gap = s.port.gap ∧
    (s.reportCloseFail).det.qOn = s.det.qOn ∧ (s.reportCloseFail).det.qOff = s.det.qOff ∧
    (s.reportCloseFail).det.qJoin = s.det.qJoin ∧ (s.reportCloseFail).dp.tripLevel = s.dp.tripLevel ∧
    (s.reportCloseFail).en.full = s.en.full ∧ (s.reportCloseFail).cap.block = s.cap.block ∧
    (s.reportCloseFail).cap.offset = s.cap.offset ∧ (s.reportCloseFail).cap.memory = s.cap.memory ∧
    (s.reportCloseFail).cap.filling = s.cap.filling ∧ (s.reportCloseFail).cap.completed = s.cap.completed := by
  simp [State.reportCloseFail]

@[simp] theorem State.testClosing_fixed (s : State) :
    (s.testClosing).port.params = s.port.params ∧ (s.testClosing).port.store = s.port.store ∧
    (s.testClosing).port.fingerprint = s.port.fingerprint ∧
    (s.testClosing).port.committed = s.port.committed ∧ (s.testClosing).port.station = s.port.station ∧
    (s.testClosing).port.countStrap = s.port.countStrap ∧ (s.testClosing).port.enable = s.port.enable ∧
    (s.testClosing).port.staging = s.port.staging ∧ (s.testClosing).port.window = s.port.window ∧
    (s.testClosing).port.gap = s.port.gap ∧ (s.testClosing).det.qOn = s.det.qOn ∧
    (s.testClosing).det.qOff = s.det.qOff ∧ (s.testClosing).det.qJoin = s.det.qJoin ∧
    (s.testClosing).dp.tripLevel = s.dp.tripLevel ∧ (s.testClosing).en.full = s.en.full ∧
    (s.testClosing).cap.block = s.cap.block ∧ (s.testClosing).cap.offset = s.cap.offset ∧
    (s.testClosing).cap.memory = s.cap.memory ∧ (s.testClosing).cap.filling = s.cap.filling ∧
    (s.testClosing).cap.completed = s.cap.completed := by
  simp only [State.testClosing]
  (repeat' split) <;> simp

@[simp] theorem State.reportUncommanded_fixed (s : State) :
    (s.reportUncommanded).port.params = s.port.params ∧ (s.reportUncommanded).port.store = s.port.store ∧
    (s.reportUncommanded).port.fingerprint = s.port.fingerprint ∧
    (s.reportUncommanded).port.committed = s.port.committed ∧
    (s.reportUncommanded).port.station = s.port.station ∧
    (s.reportUncommanded).port.countStrap = s.port.countStrap ∧
    (s.reportUncommanded).port.enable = s.port.enable ∧
    (s.reportUncommanded).port.staging = s.port.staging ∧
    (s.reportUncommanded).port.window = s.port.window ∧ (s.reportUncommanded).port.gap = s.port.gap ∧
    (s.reportUncommanded).det.qOn = s.det.qOn ∧ (s.reportUncommanded).det.qOff = s.det.qOff ∧
    (s.reportUncommanded).det.qJoin = s.det.qJoin ∧ (s.reportUncommanded).dp.tripLevel = s.dp.tripLevel ∧
    (s.reportUncommanded).en.full = s.en.full ∧ (s.reportUncommanded).cap.block = s.cap.block ∧
    (s.reportUncommanded).cap.offset = s.cap.offset ∧ (s.reportUncommanded).cap.memory = s.cap.memory ∧
    (s.reportUncommanded).cap.filling = s.cap.filling ∧
    (s.reportUncommanded).cap.completed = s.cap.completed := by
  simp [State.reportUncommanded]

@[simp] theorem State.testClosed_fixed (s : State) :
    (s.testClosed).port.params = s.port.params ∧ (s.testClosed).port.store = s.port.store ∧
    (s.testClosed).port.fingerprint = s.port.fingerprint ∧
    (s.testClosed).port.committed = s.port.committed ∧ (s.testClosed).port.station = s.port.station ∧
    (s.testClosed).port.countStrap = s.port.countStrap ∧ (s.testClosed).port.enable = s.port.enable ∧
    (s.testClosed).port.staging = s.port.staging ∧ (s.testClosed).port.window = s.port.window ∧
    (s.testClosed).port.gap = s.port.gap ∧ (s.testClosed).det.qOn = s.det.qOn ∧
    (s.testClosed).det.qOff = s.det.qOff ∧ (s.testClosed).det.qJoin = s.det.qJoin ∧
    (s.testClosed).dp.tripLevel = s.dp.tripLevel ∧ (s.testClosed).en.full = s.en.full ∧
    (s.testClosed).cap.block = s.cap.block ∧ (s.testClosed).cap.offset = s.cap.offset ∧
    (s.testClosed).cap.memory = s.cap.memory ∧ (s.testClosed).cap.filling = s.cap.filling ∧
    (s.testClosed).cap.completed = s.cap.completed := by
  simp only [State.testClosed]
  (repeat' split) <;> simp

@[simp] theorem State.testFeedback_fixed (s : State) (w : Bool) :
    (s.testFeedback w).port.params = s.port.params ∧ (s.testFeedback w).port.store = s.port.store ∧
    (s.testFeedback w).port.fingerprint = s.port.fingerprint ∧
    (s.testFeedback w).port.committed = s.port.committed ∧
    (s.testFeedback w).port.station = s.port.station ∧
    (s.testFeedback w).port.countStrap = s.port.countStrap ∧
    (s.testFeedback w).port.enable = s.port.enable ∧ (s.testFeedback w).port.staging = s.port.staging ∧
    (s.testFeedback w).port.window = s.port.window ∧ (s.testFeedback w).port.gap = s.port.gap ∧
    (s.testFeedback w).det.qOn = s.det.qOn ∧ (s.testFeedback w).det.qOff = s.det.qOff ∧
    (s.testFeedback w).det.qJoin = s.det.qJoin ∧ (s.testFeedback w).dp.tripLevel = s.dp.tripLevel ∧
    (s.testFeedback w).en.full = s.en.full ∧ (s.testFeedback w).cap.block = s.cap.block ∧
    (s.testFeedback w).cap.offset = s.cap.offset ∧ (s.testFeedback w).cap.memory = s.cap.memory ∧
    (s.testFeedback w).cap.filling = s.cap.filling ∧ (s.testFeedback w).cap.completed = s.cap.completed := by
  simp only [State.testFeedback]
  (repeat' split) <;> simp

@[simp] theorem State.writeCommands_fixed (s : State) (c : PerPhase Int) :
    (s.writeCommands c).cap.block = s.cap.block ∧ (s.writeCommands c).cap.offset = s.cap.offset ∧
    (s.writeCommands c).cap.memory = s.cap.memory ∧ (s.writeCommands c).cap.completed = s.cap.completed := by
  simp [State.writeCommands]

@[simp] theorem State.putCommand_fixed (s : State) (c : PerPhase Int) :
    (s.putCommand c).dp.tripLevel = s.dp.tripLevel ∧ (s.putCommand c).cap.block = s.cap.block ∧
    (s.putCommand c).cap.offset = s.cap.offset ∧ (s.putCommand c).cap.memory = s.cap.memory ∧
    (s.putCommand c).cap.completed = s.cap.completed := by
  simp [State.putCommand]

@[simp] theorem State.runChain_fixed (s : State) (r : SampleRead) :
    (s.runChain r).dp.tripLevel = s.dp.tripLevel ∧ (s.runChain r).cap.block = s.cap.block ∧
    (s.runChain r).cap.offset = s.cap.offset ∧ (s.runChain r).cap.memory = s.cap.memory ∧
    (s.runChain r).cap.completed = s.cap.completed := by
  simp only [State.runChain]
  (repeat' split) <;> simp

@[simp] theorem State.testOvercurrent_fixed (s : State) :
    (s.testOvercurrent).port.params = s.port.params ∧ (s.testOvercurrent).port.store = s.port.store ∧
    (s.testOvercurrent).port.fingerprint = s.port.fingerprint ∧
    (s.testOvercurrent).port.committed = s.port.committed ∧
    (s.testOvercurrent).port.station = s.port.station ∧
    (s.testOvercurrent).port.countStrap = s.port.countStrap ∧
    (s.testOvercurrent).port.enable = s.port.enable ∧ (s.testOvercurrent).port.staging = s.port.staging ∧
    (s.testOvercurrent).port.window = s.port.window ∧ (s.testOvercurrent).port.gap = s.port.gap ∧
    (s.testOvercurrent).det.qOn = s.det.qOn ∧ (s.testOvercurrent).det.qOff = s.det.qOff ∧
    (s.testOvercurrent).det.qJoin = s.det.qJoin ∧ (s.testOvercurrent).dp.tripLevel = s.dp.tripLevel ∧
    (s.testOvercurrent).en.full = s.en.full ∧ (s.testOvercurrent).cap.block = s.cap.block ∧
    (s.testOvercurrent).cap.offset = s.cap.offset ∧ (s.testOvercurrent).cap.memory = s.cap.memory ∧
    (s.testOvercurrent).cap.filling = s.cap.filling ∧ (s.testOvercurrent).cap.completed = s.cap.completed := by
  simp only [State.testOvercurrent]
  (repeat' split) <;> simp

@[simp] theorem State.takeCredit_fixed (s : State) :
    (s.takeCredit).en.full = s.en.full := by
  simp only [State.takeCredit]
  (repeat' split) <;> simp

@[simp] theorem State.testOvervoltage_fixed (s : State) :
    (s.testOvervoltage).port.params = s.port.params ∧ (s.testOvervoltage).port.store = s.port.store ∧
    (s.testOvervoltage).port.fingerprint = s.port.fingerprint ∧
    (s.testOvervoltage).port.committed = s.port.committed ∧
    (s.testOvervoltage).port.station = s.port.station ∧
    (s.testOvervoltage).port.countStrap = s.port.countStrap ∧
    (s.testOvervoltage).port.enable = s.port.enable ∧ (s.testOvervoltage).port.staging = s.port.staging ∧
    (s.testOvervoltage).port.window = s.port.window ∧ (s.testOvervoltage).port.gap = s.port.gap ∧
    (s.testOvervoltage).det.qOn = s.det.qOn ∧ (s.testOvervoltage).det.qOff = s.det.qOff ∧
    (s.testOvervoltage).det.qJoin = s.det.qJoin ∧ (s.testOvervoltage).dp.tripLevel = s.dp.tripLevel ∧
    (s.testOvervoltage).en.full = s.en.full ∧ (s.testOvervoltage).cap.block = s.cap.block ∧
    (s.testOvervoltage).cap.offset = s.cap.offset ∧ (s.testOvervoltage).cap.memory = s.cap.memory ∧
    (s.testOvervoltage).cap.filling = s.cap.filling ∧ (s.testOvervoltage).cap.completed = s.cap.completed := by
  simp only [State.testOvervoltage]
  (repeat' split) <;> simp

@[simp] theorem State.takeLink_fixed (s : State) :
    (s.takeLink).port.params = s.port.params ∧ (s.takeLink).port.store = s.port.store ∧
    (s.takeLink).port.fingerprint = s.port.fingerprint ∧ (s.takeLink).port.committed = s.port.committed ∧
    (s.takeLink).port.station = s.port.station ∧ (s.takeLink).port.countStrap = s.port.countStrap ∧
    (s.takeLink).port.enable = s.port.enable ∧ (s.takeLink).port.staging = s.port.staging ∧
    (s.takeLink).port.window = s.port.window ∧ (s.takeLink).port.gap = s.port.gap ∧
    (s.takeLink).det.qOn = s.det.qOn ∧ (s.takeLink).det.qOff = s.det.qOff ∧
    (s.takeLink).det.qJoin = s.det.qJoin ∧ (s.takeLink).dp.tripLevel = s.dp.tripLevel ∧
    (s.takeLink).en.full = s.en.full ∧ (s.takeLink).cap.block = s.cap.block ∧
    (s.takeLink).cap.offset = s.cap.offset ∧ (s.takeLink).cap.memory = s.cap.memory ∧
    (s.takeLink).cap.filling = s.cap.filling ∧ (s.takeLink).cap.completed = s.cap.completed := by
  simp [State.takeLink]

@[simp] theorem State.planInjecting_fixed (s : State) (n : Stamp) (lx : PerPhase Nat) (v : Nat) :
    (s.planInjecting n lx v).port.params = s.port.params ∧
    (s.planInjecting n lx v).port.store = s.port.store ∧
    (s.planInjecting n lx v).port.fingerprint = s.port.fingerprint ∧
    (s.planInjecting n lx v).port.committed = s.port.committed ∧
    (s.planInjecting n lx v).port.station = s.port.station ∧
    (s.planInjecting n lx v).port.countStrap = s.port.countStrap ∧
    (s.planInjecting n lx v).port.enable = s.port.enable ∧
    (s.planInjecting n lx v).port.staging = s.port.staging ∧
    (s.planInjecting n lx v).port.window = s.port.window ∧
    (s.planInjecting n lx v).port.gap = s.port.gap ∧ (s.planInjecting n lx v).det.qOn = s.det.qOn ∧
    (s.planInjecting n lx v).det.qOff = s.det.qOff ∧ (s.planInjecting n lx v).det.qJoin = s.det.qJoin ∧
    (s.planInjecting n lx v).dp.tripLevel = s.dp.tripLevel ∧
    (s.planInjecting n lx v).en.full = s.en.full ∧ (s.planInjecting n lx v).cap.block = s.cap.block ∧
    (s.planInjecting n lx v).cap.offset = s.cap.offset ∧
    (s.planInjecting n lx v).cap.memory = s.cap.memory ∧
    (s.planInjecting n lx v).cap.filling = s.cap.filling ∧
    (s.planInjecting n lx v).cap.completed = s.cap.completed := by
  simp only [State.planInjecting]
  (repeat' split) <;> simp

@[simp] theorem State.plannerBoundary_fixed (s : State) (n : Stamp) (lx : PerPhase Nat) (v : Nat) :
    (s.plannerBoundary n lx v).port.params = s.port.params ∧
    (s.plannerBoundary n lx v).port.store = s.port.store ∧
    (s.plannerBoundary n lx v).port.fingerprint = s.port.fingerprint ∧
    (s.plannerBoundary n lx v).port.committed = s.port.committed ∧
    (s.plannerBoundary n lx v).port.station = s.port.station ∧
    (s.plannerBoundary n lx v).port.countStrap = s.port.countStrap ∧
    (s.plannerBoundary n lx v).port.enable = s.port.enable ∧
    (s.plannerBoundary n lx v).port.staging = s.port.staging ∧
    (s.plannerBoundary n lx v).port.window = s.port.window ∧
    (s.plannerBoundary n lx v).port.gap = s.port.gap ∧ (s.plannerBoundary n lx v).det.qOn = s.det.qOn ∧
    (s.plannerBoundary n lx v).det.qOff = s.det.qOff ∧
    (s.plannerBoundary n lx v).det.qJoin = s.det.qJoin ∧
    (s.plannerBoundary n lx v).dp.tripLevel = s.dp.tripLevel ∧
    (s.plannerBoundary n lx v).en.full = s.en.full ∧ (s.plannerBoundary n lx v).cap.block = s.cap.block ∧
    (s.plannerBoundary n lx v).cap.offset = s.cap.offset ∧
    (s.plannerBoundary n lx v).cap.memory = s.cap.memory ∧
    (s.plannerBoundary n lx v).cap.filling = s.cap.filling ∧
    (s.plannerBoundary n lx v).cap.completed = s.cap.completed := by
  simp only [State.plannerBoundary]
  (repeat' split) <;> simp

@[simp] theorem State.peerEvents_fixed (s : State) (u v : PeerEntry) :
    (s.peerEvents u v).port.params = s.port.params ∧ (s.peerEvents u v).port.store = s.port.store ∧
    (s.peerEvents u v).port.fingerprint = s.port.fingerprint ∧
    (s.peerEvents u v).port.committed = s.port.committed ∧
    (s.peerEvents u v).port.station = s.port.station ∧
    (s.peerEvents u v).port.countStrap = s.port.countStrap ∧
    (s.peerEvents u v).port.enable = s.port.enable ∧ (s.peerEvents u v).port.staging = s.port.staging ∧
    (s.peerEvents u v).port.window = s.port.window ∧ (s.peerEvents u v).port.gap = s.port.gap := by
  simp only [State.peerEvents]
  (repeat' split) <;> simp

@[simp] theorem State.endIsolation_fixed (s : State) :
    (s.endIsolation).port.params = s.port.params ∧ (s.endIsolation).port.store = s.port.store ∧
    (s.endIsolation).port.fingerprint = s.port.fingerprint ∧
    (s.endIsolation).port.committed = s.port.committed ∧ (s.endIsolation).port.station = s.port.station ∧
    (s.endIsolation).port.countStrap = s.port.countStrap ∧ (s.endIsolation).port.enable = s.port.enable ∧
    (s.endIsolation).port.staging = s.port.staging ∧ (s.endIsolation).port.window = s.port.window ∧
    (s.endIsolation).port.gap = s.port.gap := by
  simp only [State.endIsolation]
  (repeat' split) <;> simp

@[simp] theorem State.giveNotice_fixed (s : State) (c : FrameClass) (k : Nat) :
    (s.giveNotice c k).port.params = s.port.params ∧ (s.giveNotice c k).port.store = s.port.store ∧
    (s.giveNotice c k).port.fingerprint = s.port.fingerprint ∧
    (s.giveNotice c k).port.committed = s.port.committed ∧
    (s.giveNotice c k).port.station = s.port.station ∧
    (s.giveNotice c k).port.countStrap = s.port.countStrap ∧
    (s.giveNotice c k).port.enable = s.port.enable ∧ (s.giveNotice c k).port.staging = s.port.staging ∧
    (s.giveNotice c k).port.window = s.port.window ∧ (s.giveNotice c k).port.gap = s.port.gap ∧
    (s.giveNotice c k).det.qOn = s.det.qOn ∧ (s.giveNotice c k).det.qOff = s.det.qOff ∧
    (s.giveNotice c k).det.qJoin = s.det.qJoin ∧ (s.giveNotice c k).dp.tripLevel = s.dp.tripLevel ∧
    (s.giveNotice c k).en.full = s.en.full ∧ (s.giveNotice c k).cap.block = s.cap.block ∧
    (s.giveNotice c k).cap.offset = s.cap.offset ∧ (s.giveNotice c k).cap.memory = s.cap.memory ∧
    (s.giveNotice c k).cap.filling = s.cap.filling ∧ (s.giveNotice c k).cap.completed = s.cap.completed := by
  simp only [State.giveNotice]
  (repeat' split) <;> simp

@[simp] theorem State.takeFrame_fixed (s : State) (f : Frame) :
    (s.takeFrame f).port.params = s.port.params ∧ (s.takeFrame f).port.store = s.port.store ∧
    (s.takeFrame f).port.fingerprint = s.port.fingerprint ∧
    (s.takeFrame f).port.committed = s.port.committed ∧ (s.takeFrame f).port.station = s.port.station ∧
    (s.takeFrame f).port.countStrap = s.port.countStrap ∧ (s.takeFrame f).port.enable = s.port.enable ∧
    (s.takeFrame f).port.staging = s.port.staging ∧ (s.takeFrame f).port.window = s.port.window ∧
    (s.takeFrame f).port.gap = s.port.gap ∧ (s.takeFrame f).det.qOn = s.det.qOn ∧
    (s.takeFrame f).det.qOff = s.det.qOff ∧ (s.takeFrame f).det.qJoin = s.det.qJoin ∧
    (s.takeFrame f).dp.tripLevel = s.dp.tripLevel ∧ (s.takeFrame f).en.full = s.en.full ∧
    (s.takeFrame f).cap.block = s.cap.block ∧ (s.takeFrame f).cap.offset = s.cap.offset ∧
    (s.takeFrame f).cap.memory = s.cap.memory ∧ (s.takeFrame f).cap.filling = s.cap.filling ∧
    (s.takeFrame f).cap.completed = s.cap.completed := by
  simp only [State.takeFrame]
  (repeat' split) <;> simp

@[simp] theorem State.loseEntry_fixed (s : State) (k : Nat) :
    (s.loseEntry k).port.params = s.port.params ∧ (s.loseEntry k).port.store = s.port.store ∧
    (s.loseEntry k).port.fingerprint = s.port.fingerprint ∧
    (s.loseEntry k).port.committed = s.port.committed ∧ (s.loseEntry k).port.station = s.port.station ∧
    (s.loseEntry k).port.countStrap = s.port.countStrap ∧ (s.loseEntry k).port.enable = s.port.enable ∧
    (s.loseEntry k).port.staging = s.port.staging ∧ (s.loseEntry k).port.window = s.port.window ∧
    (s.loseEntry k).port.gap = s.port.gap ∧ (s.loseEntry k).cap.block = s.cap.block ∧
    (s.loseEntry k).cap.offset = s.cap.offset ∧ (s.loseEntry k).cap.memory = s.cap.memory ∧
    (s.loseEntry k).cap.filling = s.cap.filling ∧ (s.loseEntry k).cap.completed = s.cap.completed := by
  simp [State.loseEntry]

@[simp] theorem State.ageEntry_fixed (s : State) (k : Nat) :
    (s.ageEntry k).port.params = s.port.params ∧ (s.ageEntry k).port.store = s.port.store ∧
    (s.ageEntry k).port.fingerprint = s.port.fingerprint ∧
    (s.ageEntry k).port.committed = s.port.committed ∧ (s.ageEntry k).port.station = s.port.station ∧
    (s.ageEntry k).port.countStrap = s.port.countStrap ∧ (s.ageEntry k).port.enable = s.port.enable ∧
    (s.ageEntry k).port.staging = s.port.staging ∧ (s.ageEntry k).port.window = s.port.window ∧
    (s.ageEntry k).port.gap = s.port.gap ∧ (s.ageEntry k).cap.block = s.cap.block ∧
    (s.ageEntry k).cap.offset = s.cap.offset ∧ (s.ageEntry k).cap.memory = s.cap.memory ∧
    (s.ageEntry k).cap.filling = s.cap.filling ∧ (s.ageEntry k).cap.completed = s.cap.completed := by
  simp only [State.ageEntry]
  (repeat' split) <;> simp

@[simp] theorem State.agePeers_fixed (s : State) :
    (s.agePeers).port.params = s.port.params ∧ (s.agePeers).port.store = s.port.store ∧
    (s.agePeers).port.fingerprint = s.port.fingerprint ∧ (s.agePeers).port.committed = s.port.committed ∧
    (s.agePeers).port.station = s.port.station ∧ (s.agePeers).port.countStrap = s.port.countStrap ∧
    (s.agePeers).port.enable = s.port.enable ∧ (s.agePeers).port.staging = s.port.staging ∧
    (s.agePeers).port.window = s.port.window ∧ (s.agePeers).port.gap = s.port.gap ∧
    (s.agePeers).cap.block = s.cap.block ∧ (s.agePeers).cap.offset = s.cap.offset ∧
    (s.agePeers).cap.memory = s.cap.memory ∧ (s.agePeers).cap.filling = s.cap.filling ∧
    (s.agePeers).cap.completed = s.cap.completed := by
  simp [State.agePeers, List.range, List.range.loop]

@[simp] theorem State.isolate_fixed (s : State) :
    (s.isolate).port.params = s.port.params ∧ (s.isolate).port.store = s.port.store ∧
    (s.isolate).port.fingerprint = s.port.fingerprint ∧ (s.isolate).port.committed = s.port.committed ∧
    (s.isolate).port.station = s.port.station ∧ (s.isolate).port.countStrap = s.port.countStrap ∧
    (s.isolate).port.enable = s.port.enable ∧ (s.isolate).port.staging = s.port.staging ∧
    (s.isolate).port.window = s.port.window ∧ (s.isolate).port.gap = s.port.gap ∧
    (s.isolate).dp.tripLevel = s.dp.tripLevel := by
  simp [State.isolate]

@[simp] theorem State.shareAtBoundary_fixed (s : State) :
    (s.shareAtBoundary).dp.tripLevel = s.dp.tripLevel := by
  simp only [State.shareAtBoundary]
  (repeat' split) <;> simp

@[simp] theorem State.testLine_fixed (s : State) :
    (s.testLine).port.params = s.port.params ∧ (s.testLine).port.store = s.port.store ∧
    (s.testLine).port.fingerprint = s.port.fingerprint ∧ (s.testLine).port.committed = s.port.committed ∧
    (s.testLine).port.station = s.port.station ∧ (s.testLine).port.countStrap = s.port.countStrap ∧
    (s.testLine).port.enable = s.port.enable ∧ (s.testLine).port.staging = s.port.staging ∧
    (s.testLine).port.window = s.port.window ∧ (s.testLine).port.gap = s.port.gap ∧
    (s.testLine).det.qOn = s.det.qOn ∧ (s.testLine).det.qOff = s.det.qOff ∧
    (s.testLine).det.qJoin = s.det.qJoin ∧ (s.testLine).dp.tripLevel = s.dp.tripLevel ∧
    (s.testLine).en.full = s.en.full ∧ (s.testLine).cap.block = s.cap.block ∧
    (s.testLine).cap.offset = s.cap.offset ∧ (s.testLine).cap.memory = s.cap.memory ∧
    (s.testLine).cap.filling = s.cap.filling ∧ (s.testLine).cap.completed = s.cap.completed := by
  simp only [State.testLine]
  (repeat' split) <;> simp

@[simp] theorem State.shareBoundary_fixed (s : State) :
    (s.shareBoundary).port.params = s.port.params ∧ (s.shareBoundary).port.store = s.port.store ∧
    (s.shareBoundary).port.fingerprint = s.port.fingerprint ∧
    (s.shareBoundary).port.committed = s.port.committed ∧
    (s.shareBoundary).port.station = s.port.station ∧
    (s.shareBoundary).port.countStrap = s.port.countStrap ∧
    (s.shareBoundary).port.enable = s.port.enable ∧ (s.shareBoundary).port.staging = s.port.staging ∧
    (s.shareBoundary).port.window = s.port.window ∧ (s.shareBoundary).port.gap = s.port.gap ∧
    (s.shareBoundary).det.qOn = s.det.qOn ∧ (s.shareBoundary).det.qOff = s.det.qOff ∧
    (s.shareBoundary).det.qJoin = s.det.qJoin ∧ (s.shareBoundary).dp.tripLevel = s.dp.tripLevel ∧
    (s.shareBoundary).en.full = s.en.full ∧ (s.shareBoundary).cap.block = s.cap.block ∧
    (s.shareBoundary).cap.offset = s.cap.offset ∧ (s.shareBoundary).cap.memory = s.cap.memory ∧
    (s.shareBoundary).cap.filling = s.cap.filling ∧ (s.shareBoundary).cap.completed = s.cap.completed := by
  simp only [State.shareBoundary]
  (repeat' split) <;> simp

@[simp] theorem State.setTec_fixed (s : State) (n : Nat) :
    (s.setTec n).port.params = s.port.params ∧ (s.setTec n).port.store = s.port.store ∧
    (s.setTec n).port.fingerprint = s.port.fingerprint ∧ (s.setTec n).port.committed = s.port.committed ∧
    (s.setTec n).port.station = s.port.station ∧ (s.setTec n).port.countStrap = s.port.countStrap ∧
    (s.setTec n).port.enable = s.port.enable ∧ (s.setTec n).port.staging = s.port.staging ∧
    (s.setTec n).port.window = s.port.window ∧ (s.setTec n).port.gap = s.port.gap := by
  simp only [State.setTec]
  (repeat' split) <;> simp

@[simp] theorem State.bitError_fixed (s : State) (k : Nat) :
    (s.bitError k).port.params = s.port.params ∧ (s.bitError k).port.store = s.port.store ∧
    (s.bitError k).port.fingerprint = s.port.fingerprint ∧
    (s.bitError k).port.committed = s.port.committed ∧ (s.bitError k).port.station = s.port.station ∧
    (s.bitError k).port.countStrap = s.port.countStrap ∧ (s.bitError k).port.enable = s.port.enable ∧
    (s.bitError k).port.staging = s.port.staging ∧ (s.bitError k).port.window = s.port.window ∧
    (s.bitError k).port.gap = s.port.gap := by
  simp only [State.bitError]
  (repeat' split) <;> simp

@[simp] theorem State.completeFrame_fixed (s : State) :
    (s.completeFrame).port.params = s.port.params ∧ (s.completeFrame).port.store = s.port.store ∧
    (s.completeFrame).port.fingerprint = s.port.fingerprint ∧
    (s.completeFrame).port.committed = s.port.committed ∧
    (s.completeFrame).port.station = s.port.station ∧
    (s.completeFrame).port.countStrap = s.port.countStrap ∧
    (s.completeFrame).port.enable = s.port.enable ∧ (s.completeFrame).port.staging = s.port.staging ∧
    (s.completeFrame).port.window = s.port.window ∧ (s.completeFrame).port.gap = s.port.gap := by
  simp only [State.completeFrame]
  (repeat' split) <;> simp

@[simp] theorem State.acceptFrame_fixed (s : State) (f : Frame) :
    (s.acceptFrame f).port.params = s.port.params ∧ (s.acceptFrame f).port.store = s.port.store ∧
    (s.acceptFrame f).port.fingerprint = s.port.fingerprint ∧
    (s.acceptFrame f).port.committed = s.port.committed ∧
    (s.acceptFrame f).port.station = s.port.station ∧
    (s.acceptFrame f).port.countStrap = s.port.countStrap ∧
    (s.acceptFrame f).port.enable = s.port.enable ∧ (s.acceptFrame f).port.staging = s.port.staging ∧
    (s.acceptFrame f).port.window = s.port.window ∧ (s.acceptFrame f).port.gap = s.port.gap ∧
    (s.acceptFrame f).det.qOn = s.det.qOn ∧ (s.acceptFrame f).det.qOff = s.det.qOff ∧
    (s.acceptFrame f).det.qJoin = s.det.qJoin ∧ (s.acceptFrame f).dp.tripLevel = s.dp.tripLevel ∧
    (s.acceptFrame f).en.full = s.en.full ∧ (s.acceptFrame f).cap.block = s.cap.block ∧
    (s.acceptFrame f).cap.offset = s.cap.offset ∧ (s.acceptFrame f).cap.memory = s.cap.memory ∧
    (s.acceptFrame f).cap.filling = s.cap.filling ∧ (s.acceptFrame f).cap.completed = s.cap.completed := by
  simp only [State.acceptFrame]
  (repeat' split) <;> simp

@[simp] theorem State.enterStuck_fixed (s : State) :
    (s.enterStuck).port.params = s.port.params ∧ (s.enterStuck).port.store = s.port.store ∧
    (s.enterStuck).port.fingerprint = s.port.fingerprint ∧
    (s.enterStuck).port.committed = s.port.committed ∧ (s.enterStuck).port.station = s.port.station ∧
    (s.enterStuck).port.countStrap = s.port.countStrap ∧ (s.enterStuck).port.enable = s.port.enable ∧
    (s.enterStuck).port.staging = s.port.staging ∧ (s.enterStuck).port.window = s.port.window ∧
    (s.enterStuck).port.gap = s.port.gap ∧ (s.enterStuck).det.qOn = s.det.qOn ∧
    (s.enterStuck).det.qOff = s.det.qOff ∧ (s.enterStuck).det.qJoin = s.det.qJoin ∧
    (s.enterStuck).dp.tripLevel = s.dp.tripLevel ∧ (s.enterStuck).en.full = s.en.full ∧
    (s.enterStuck).cap.block = s.cap.block ∧ (s.enterStuck).cap.offset = s.cap.offset ∧
    (s.enterStuck).cap.memory = s.cap.memory ∧ (s.enterStuck).cap.filling = s.cap.filling ∧
    (s.enterStuck).cap.completed = s.cap.completed := by
  simp only [State.enterStuck]
  (repeat' split) <;> simp

@[simp] theorem State.endStuck_fixed (s : State) :
    (s.endStuck).port.params = s.port.params ∧ (s.endStuck).port.store = s.port.store ∧
    (s.endStuck).port.fingerprint = s.port.fingerprint ∧ (s.endStuck).port.committed = s.port.committed ∧
    (s.endStuck).port.station = s.port.station ∧ (s.endStuck).port.countStrap = s.port.countStrap ∧
    (s.endStuck).port.enable = s.port.enable ∧ (s.endStuck).port.staging = s.port.staging ∧
    (s.endStuck).port.window = s.port.window ∧ (s.endStuck).port.gap = s.port.gap := by
  simp only [State.endStuck]
  (repeat' split) <;> simp

@[simp] theorem State.followBit_fixed (s : State) (read : List Bool) (b : Bool) :
    (s.followBit read b).port.params = s.port.params ∧ (s.followBit read b).port.store = s.port.store ∧
    (s.followBit read b).port.fingerprint = s.port.fingerprint ∧
    (s.followBit read b).port.committed = s.port.committed ∧
    (s.followBit read b).port.station = s.port.station ∧
    (s.followBit read b).port.countStrap = s.port.countStrap ∧
    (s.followBit read b).port.enable = s.port.enable ∧
    (s.followBit read b).port.staging = s.port.staging ∧
    (s.followBit read b).port.window = s.port.window ∧ (s.followBit read b).port.gap = s.port.gap ∧
    (s.followBit read b).det.qOn = s.det.qOn ∧ (s.followBit read b).det.qOff = s.det.qOff ∧
    (s.followBit read b).det.qJoin = s.det.qJoin ∧ (s.followBit read b).dp.tripLevel = s.dp.tripLevel ∧
    (s.followBit read b).en.full = s.en.full ∧ (s.followBit read b).cap.block = s.cap.block ∧
    (s.followBit read b).cap.offset = s.cap.offset ∧ (s.followBit read b).cap.memory = s.cap.memory ∧
    (s.followBit read b).cap.filling = s.cap.filling ∧
    (s.followBit read b).cap.completed = s.cap.completed := by
  simp only [State.followBit]
  (repeat' split) <;> simp

@[simp] theorem State.hearBit_fixed (s : State) (b : Bool) :
    (s.hearBit b).port.params = s.port.params ∧ (s.hearBit b).port.store = s.port.store ∧
    (s.hearBit b).port.fingerprint = s.port.fingerprint ∧
    (s.hearBit b).port.committed = s.port.committed ∧
    (s.hearBit b).port.station = s.port.station ∧
    (s.hearBit b).port.countStrap = s.port.countStrap ∧
    (s.hearBit b).port.enable = s.port.enable ∧
    (s.hearBit b).port.staging = s.port.staging ∧
    (s.hearBit b).port.window = s.port.window ∧ (s.hearBit b).port.gap = s.port.gap ∧
    (s.hearBit b).det.qOn = s.det.qOn ∧ (s.hearBit b).det.qOff = s.det.qOff ∧
    (s.hearBit b).det.qJoin = s.det.qJoin ∧ (s.hearBit b).dp.tripLevel = s.dp.tripLevel ∧
    (s.hearBit b).en.full = s.en.full ∧ (s.hearBit b).cap.block = s.cap.block ∧
    (s.hearBit b).cap.offset = s.cap.offset ∧ (s.hearBit b).cap.memory = s.cap.memory ∧
    (s.hearBit b).cap.filling = s.cap.filling ∧
    (s.hearBit b).cap.completed = s.cap.completed := by
  simp only [State.hearBit]
  (repeat' split) <;> simp

@[simp] theorem State.sampleBit_fixed (s : State) (b : Bool) :
    (s.sampleBit b).port.params = s.port.params ∧ (s.sampleBit b).port.store = s.port.store ∧
    (s.sampleBit b).port.fingerprint = s.port.fingerprint ∧
    (s.sampleBit b).port.committed = s.port.committed ∧
    (s.sampleBit b).port.station = s.port.station ∧
    (s.sampleBit b).port.countStrap = s.port.countStrap ∧
    (s.sampleBit b).port.enable = s.port.enable ∧
    (s.sampleBit b).port.staging = s.port.staging ∧
    (s.sampleBit b).port.window = s.port.window ∧ (s.sampleBit b).port.gap = s.port.gap ∧
    (s.sampleBit b).det.qOn = s.det.qOn ∧ (s.sampleBit b).det.qOff = s.det.qOff ∧
    (s.sampleBit b).det.qJoin = s.det.qJoin ∧ (s.sampleBit b).dp.tripLevel = s.dp.tripLevel ∧
    (s.sampleBit b).en.full = s.en.full ∧ (s.sampleBit b).cap.block = s.cap.block ∧
    (s.sampleBit b).cap.offset = s.cap.offset ∧ (s.sampleBit b).cap.memory = s.cap.memory ∧
    (s.sampleBit b).cap.filling = s.cap.filling ∧
    (s.sampleBit b).cap.completed = s.cap.completed := by
  simp only [State.sampleBit]
  (repeat' split) <;> simp

@[simp] theorem State.receiveBits_fixed (s : State) (bits : List Bool) :
    (s.receiveBits bits).port.params = s.port.params ∧ (s.receiveBits bits).port.store = s.port.store ∧
    (s.receiveBits bits).port.fingerprint = s.port.fingerprint ∧
    (s.receiveBits bits).port.committed = s.port.committed ∧
    (s.receiveBits bits).port.station = s.port.station ∧
    (s.receiveBits bits).port.countStrap = s.port.countStrap ∧
    (s.receiveBits bits).port.enable = s.port.enable ∧
    (s.receiveBits bits).port.staging = s.port.staging ∧
    (s.receiveBits bits).port.window = s.port.window ∧ (s.receiveBits bits).port.gap = s.port.gap ∧
    (s.receiveBits bits).det.qOn = s.det.qOn ∧ (s.receiveBits bits).det.qOff = s.det.qOff ∧
    (s.receiveBits bits).det.qJoin = s.det.qJoin ∧ (s.receiveBits bits).dp.tripLevel = s.dp.tripLevel ∧
    (s.receiveBits bits).en.full = s.en.full ∧ (s.receiveBits bits).cap.block = s.cap.block ∧
    (s.receiveBits bits).cap.offset = s.cap.offset ∧ (s.receiveBits bits).cap.memory = s.cap.memory ∧
    (s.receiveBits bits).cap.filling = s.cap.filling ∧
    (s.receiveBits bits).cap.completed = s.cap.completed := by
  simp only [State.receiveBits]
  induction bits generalizing s with
  | nil => simp
  | cons b l ih => simp [ih]

@[simp] theorem State.endSilence_fixed (s : State) :
    (s.endSilence).port.params = s.port.params ∧ (s.endSilence).port.store = s.port.store ∧
    (s.endSilence).port.fingerprint = s.port.fingerprint ∧
    (s.endSilence).port.committed = s.port.committed ∧ (s.endSilence).port.station = s.port.station ∧
    (s.endSilence).port.countStrap = s.port.countStrap ∧ (s.endSilence).port.enable = s.port.enable ∧
    (s.endSilence).port.staging = s.port.staging ∧ (s.endSilence).port.window = s.port.window ∧
    (s.endSilence).port.gap = s.port.gap := by
  simp only [State.endSilence]
  (repeat' split) <;> simp

@[simp] theorem State.tickSilence_fixed (s : State) :
    (s.tickSilence).port.params = s.port.params ∧ (s.tickSilence).port.store = s.port.store ∧
    (s.tickSilence).port.fingerprint = s.port.fingerprint ∧
    (s.tickSilence).port.committed = s.port.committed ∧ (s.tickSilence).port.station = s.port.station ∧
    (s.tickSilence).port.countStrap = s.port.countStrap ∧ (s.tickSilence).port.enable = s.port.enable ∧
    (s.tickSilence).port.staging = s.port.staging ∧ (s.tickSilence).port.window = s.port.window ∧
    (s.tickSilence).port.gap = s.port.gap := by
  simp only [State.tickSilence]
  (repeat' split) <;> simp

@[simp] theorem State.lineBoundary_fixed (s : State) :
    (s.lineBoundary).port.params = s.port.params ∧ (s.lineBoundary).port.store = s.port.store ∧
    (s.lineBoundary).port.fingerprint = s.port.fingerprint ∧
    (s.lineBoundary).port.committed = s.port.committed ∧ (s.lineBoundary).port.station = s.port.station ∧
    (s.lineBoundary).port.countStrap = s.port.countStrap ∧ (s.lineBoundary).port.enable = s.port.enable ∧
    (s.lineBoundary).port.staging = s.port.staging ∧ (s.lineBoundary).port.window = s.port.window ∧
    (s.lineBoundary).port.gap = s.port.gap := by
  simp only [State.lineBoundary]
  (repeat' split) <;> simp

@[simp] theorem State.writeGrid_fixed (s : State) :
    (s.writeGrid).cap.block = s.cap.block ∧ (s.writeGrid).cap.offset = s.cap.offset ∧
    (s.writeGrid).cap.memory = s.cap.memory ∧ (s.writeGrid).cap.completed = s.cap.completed := by
  simp [State.writeGrid]

@[simp] theorem State.captureOne_fixed (s : State) (n : Stamp) (one : Bool) :
    (s.captureOne n one).port.params = s.port.params ∧ (s.captureOne n one).port.store = s.port.store ∧
    (s.captureOne n one).port.fingerprint = s.port.fingerprint ∧
    (s.captureOne n one).port.committed = s.port.committed ∧
    (s.captureOne n one).port.station = s.port.station ∧
    (s.captureOne n one).port.countStrap = s.port.countStrap ∧
    (s.captureOne n one).port.enable = s.port.enable ∧
    (s.captureOne n one).port.staging = s.port.staging ∧
    (s.captureOne n one).port.window = s.port.window ∧ (s.captureOne n one).port.gap = s.port.gap ∧
    (s.captureOne n one).cap.block = s.cap.block ∧ (s.captureOne n one).cap.offset = s.cap.offset ∧
    (s.captureOne n one).cap.memory = s.cap.memory ∧ (s.captureOne n one).cap.filling = s.cap.filling ∧
    (s.captureOne n one).cap.completed = s.cap.completed := by
  simp only [State.captureOne]
  (repeat' split) <;> simp

@[simp] theorem State.captureBoundary_fixed (s : State) (n : Stamp) :
    (s.captureBoundary n).port.params = s.port.params ∧ (s.captureBoundary n).port.store = s.port.store ∧
    (s.captureBoundary n).port.fingerprint = s.port.fingerprint ∧
    (s.captureBoundary n).port.committed = s.port.committed ∧
    (s.captureBoundary n).port.station = s.port.station ∧
    (s.captureBoundary n).port.countStrap = s.port.countStrap ∧
    (s.captureBoundary n).port.enable = s.port.enable ∧
    (s.captureBoundary n).port.staging = s.port.staging ∧
    (s.captureBoundary n).port.window = s.port.window ∧ (s.captureBoundary n).port.gap = s.port.gap ∧
    (s.captureBoundary n).cap.block = s.cap.block ∧ (s.captureBoundary n).cap.offset = s.cap.offset ∧
    (s.captureBoundary n).cap.memory = s.cap.memory ∧ (s.captureBoundary n).cap.filling = s.cap.filling ∧
    (s.captureBoundary n).cap.completed = s.cap.completed := by
  simp [State.captureBoundary]

@[simp] theorem State.endCopyOf_fixed (s : State) (one : Bool) :
    (s.endCopyOf one).port.params = s.port.params ∧ (s.endCopyOf one).port.store = s.port.store ∧
    (s.endCopyOf one).port.fingerprint = s.port.fingerprint ∧
    (s.endCopyOf one).port.committed = s.port.committed ∧
    (s.endCopyOf one).port.station = s.port.station ∧
    (s.endCopyOf one).port.countStrap = s.port.countStrap ∧
    (s.endCopyOf one).port.enable = s.port.enable ∧ (s.endCopyOf one).port.staging = s.port.staging ∧
    (s.endCopyOf one).port.window = s.port.window ∧ (s.endCopyOf one).port.gap = s.port.gap ∧
    (s.endCopyOf one).cap.block = s.cap.block ∧ (s.endCopyOf one).cap.offset = s.cap.offset ∧
    (s.endCopyOf one).cap.memory = s.cap.memory ∧ (s.endCopyOf one).cap.filling = s.cap.filling ∧
    (s.endCopyOf one).cap.completed = s.cap.completed := by
  simp only [State.endCopyOf, Capture.modChannel]
  (repeat' split) <;> cases one <;> simp

@[simp] theorem State.endCopy_fixed (s : State) :
    (s.endCopy).port.params = s.port.params ∧ (s.endCopy).port.store = s.port.store ∧
    (s.endCopy).port.fingerprint = s.port.fingerprint ∧ (s.endCopy).port.committed = s.port.committed ∧
    (s.endCopy).port.station = s.port.station ∧ (s.endCopy).port.countStrap = s.port.countStrap ∧
    (s.endCopy).port.enable = s.port.enable ∧ (s.endCopy).port.staging = s.port.staging ∧
    (s.endCopy).port.window = s.port.window ∧ (s.endCopy).port.gap = s.port.gap ∧
    (s.endCopy).cap.block = s.cap.block ∧ (s.endCopy).cap.offset = s.cap.offset ∧
    (s.endCopy).cap.filling = s.cap.filling ∧ (s.endCopy).cap.completed = s.cap.completed := by
  simp only [State.endCopy]
  (repeat' split) <;> simp

@[simp] theorem State.endCopies_fixed (s : State) (n : Nat) :
    (s.endCopies n).port.params = s.port.params ∧ (s.endCopies n).port.store = s.port.store ∧
    (s.endCopies n).port.fingerprint = s.port.fingerprint ∧
    (s.endCopies n).port.committed = s.port.committed ∧ (s.endCopies n).port.station = s.port.station ∧
    (s.endCopies n).port.countStrap = s.port.countStrap ∧ (s.endCopies n).port.enable = s.port.enable ∧
    (s.endCopies n).port.staging = s.port.staging ∧ (s.endCopies n).port.window = s.port.window ∧
    (s.endCopies n).port.gap = s.port.gap ∧ (s.endCopies n).cap.block = s.cap.block ∧
    (s.endCopies n).cap.offset = s.cap.offset ∧ (s.endCopies n).cap.filling = s.cap.filling ∧
    (s.endCopies n).cap.completed = s.cap.completed := by
  induction n generalizing s with
  | zero => simp [State.endCopies]
  | succ n ih => simp [State.endCopies, ih]

@[simp] theorem State.disarmChannel_fixed (s : State) (one : Bool) :
    (s.disarmChannel one).port.params = s.port.params ∧ (s.disarmChannel one).port.store = s.port.store ∧
    (s.disarmChannel one).port.fingerprint = s.port.fingerprint ∧
    (s.disarmChannel one).port.committed = s.port.committed ∧
    (s.disarmChannel one).port.station = s.port.station ∧
    (s.disarmChannel one).port.countStrap = s.port.countStrap ∧
    (s.disarmChannel one).port.enable = s.port.enable ∧
    (s.disarmChannel one).port.staging = s.port.staging ∧
    (s.disarmChannel one).port.window = s.port.window ∧ (s.disarmChannel one).port.gap = s.port.gap ∧
    (s.disarmChannel one).cap.block = s.cap.block ∧ (s.disarmChannel one).cap.offset = s.cap.offset ∧
    (s.disarmChannel one).cap.memory = s.cap.memory ∧ (s.disarmChannel one).cap.filling = s.cap.filling ∧
    (s.disarmChannel one).cap.completed = s.cap.completed := by
  simp only [State.disarmChannel, Capture.modChannel]
  (repeat' split) <;> simp

@[simp] theorem State.softChannel_fixed (s : State) (one : Bool) :
    (s.softChannel one).port.params = s.port.params ∧ (s.softChannel one).port.store = s.port.store ∧
    (s.softChannel one).port.fingerprint = s.port.fingerprint ∧
    (s.softChannel one).port.committed = s.port.committed ∧
    (s.softChannel one).port.station = s.port.station ∧
    (s.softChannel one).port.countStrap = s.port.countStrap ∧
    (s.softChannel one).port.enable = s.port.enable ∧ (s.softChannel one).port.staging = s.port.staging ∧
    (s.softChannel one).port.window = s.port.window ∧ (s.softChannel one).port.gap = s.port.gap ∧
    (s.softChannel one).cap.block = s.cap.block ∧ (s.softChannel one).cap.offset = s.cap.offset ∧
    (s.softChannel one).cap.memory = s.cap.memory ∧ (s.softChannel one).cap.filling = s.cap.filling ∧
    (s.softChannel one).cap.completed = s.cap.completed := by
  simp [State.softChannel]

@[simp] theorem State.scrubFrom_fixed (s : State) (j n : Nat) :
    (s.scrubFrom j n).port.params = s.port.params ∧ (s.scrubFrom j n).port.store = s.port.store ∧
    (s.scrubFrom j n).port.fingerprint = s.port.fingerprint ∧
    (s.scrubFrom j n).port.committed = s.port.committed ∧
    (s.scrubFrom j n).port.station = s.port.station ∧
    (s.scrubFrom j n).port.countStrap = s.port.countStrap ∧
    (s.scrubFrom j n).port.enable = s.port.enable ∧ (s.scrubFrom j n).port.staging = s.port.staging ∧
    (s.scrubFrom j n).port.window = s.port.window ∧ (s.scrubFrom j n).port.gap = s.port.gap ∧
    (s.scrubFrom j n).det.qOn = s.det.qOn ∧ (s.scrubFrom j n).det.qOff = s.det.qOff ∧
    (s.scrubFrom j n).det.qJoin = s.det.qJoin ∧ (s.scrubFrom j n).dp.tripLevel = s.dp.tripLevel ∧
    (s.scrubFrom j n).en.full = s.en.full ∧ (s.scrubFrom j n).cap.block = s.cap.block ∧
    (s.scrubFrom j n).cap.offset = s.cap.offset ∧ (s.scrubFrom j n).cap.memory = s.cap.memory ∧
    (s.scrubFrom j n).cap.filling = s.cap.filling ∧ (s.scrubFrom j n).cap.completed = s.cap.completed := by
  induction n generalizing s j with
  | zero => simp [State.scrubFrom]
  | succ n ih =>
    simp only [State.scrubFrom]
    split <;> simp [ih]

@[simp] theorem State.faultBoundary_fixed (s : State) :
    (s.faultBoundary).port.params = s.port.params ∧ (s.faultBoundary).port.store = s.port.store ∧
    (s.faultBoundary).port.fingerprint = s.port.fingerprint ∧
    (s.faultBoundary).port.committed = s.port.committed ∧
    (s.faultBoundary).port.station = s.port.station ∧
    (s.faultBoundary).port.countStrap = s.port.countStrap ∧
    (s.faultBoundary).port.enable = s.port.enable ∧ (s.faultBoundary).port.staging = s.port.staging ∧
    (s.faultBoundary).port.window = s.port.window ∧ (s.faultBoundary).port.gap = s.port.gap ∧
    (s.faultBoundary).det.qOn = s.det.qOn ∧ (s.faultBoundary).det.qOff = s.det.qOff ∧
    (s.faultBoundary).det.qJoin = s.det.qJoin ∧ (s.faultBoundary).dp.tripLevel = s.dp.tripLevel ∧
    (s.faultBoundary).en.full = s.en.full ∧ (s.faultBoundary).cap.block = s.cap.block ∧
    (s.faultBoundary).cap.offset = s.cap.offset ∧ (s.faultBoundary).cap.memory = s.cap.memory ∧
    (s.faultBoundary).cap.filling = s.cap.filling ∧ (s.faultBoundary).cap.completed = s.cap.completed := by
  simp only [State.faultBoundary]
  (repeat' split) <;> simp

@[simp] theorem State.startFlags_fixed (s : State) :
    (s.startFlags).det.qOn = s.det.qOn ∧ (s.startFlags).det.qOff = s.det.qOff ∧
    (s.startFlags).det.qJoin = s.det.qJoin ∧ (s.startFlags).dp.tripLevel = s.dp.tripLevel := by
  simp only [State.startFlags]
  split <;> simp [Detector.startCycle]

@[simp] theorem State.holdSample_fixed (s : State) (v : SenseInput) :
    (s.holdSample v).cap.block = s.cap.block ∧ (s.holdSample v).cap.offset = s.cap.offset ∧
    (s.holdSample v).cap.memory = s.cap.memory ∧ (s.holdSample v).cap.completed = s.cap.completed := by
  simp [State.holdSample]

@[simp] theorem State.samplePart_fixed (s : State) (r : SampleRead) (w : Bool) (p : SamplePart) :
    (s.samplePart r w p).port.params = s.port.params ∧ (s.samplePart r w p).port.store = s.port.store ∧
    (s.samplePart r w p).port.fingerprint = s.port.fingerprint ∧
    (s.samplePart r w p).port.committed = s.port.committed ∧
    (s.samplePart r w p).port.station = s.port.station ∧
    (s.samplePart r w p).port.countStrap = s.port.countStrap ∧
    (s.samplePart r w p).port.enable = s.port.enable ∧
    (s.samplePart r w p).port.staging = s.port.staging ∧
    (s.samplePart r w p).port.window = s.port.window ∧ (s.samplePart r w p).port.gap = s.port.gap ∧
    (s.samplePart r w p).det.qOn = s.det.qOn ∧ (s.samplePart r w p).det.qOff = s.det.qOff ∧
    (s.samplePart r w p).det.qJoin = s.det.qJoin ∧ (s.samplePart r w p).dp.tripLevel = s.dp.tripLevel ∧
    (s.samplePart r w p).en.full = s.en.full ∧ (s.samplePart r w p).cap.block = s.cap.block ∧
    (s.samplePart r w p).cap.offset = s.cap.offset ∧ (s.samplePart r w p).cap.memory = s.cap.memory ∧
    (s.samplePart r w p).cap.completed = s.cap.completed := by
  simp only [State.samplePart]
  (repeat' split) <;> simp

@[simp] theorem State.publish_fixed (s : State) (b : BoundaryData) :
    (s.publish b).det.qOn = s.det.qOn ∧ (s.publish b).det.qOff = s.det.qOff ∧
    (s.publish b).det.qJoin = s.det.qJoin ∧ (s.publish b).dp.tripLevel = s.dp.tripLevel ∧
    (s.publish b).cap.block = s.cap.block ∧ (s.publish b).cap.offset = s.cap.offset ∧
    (s.publish b).cap.memory = s.cap.memory := by
  simp [State.publish, Capture.swap]

@[simp] theorem State.boundaryPart_fixed (s : State) (b : BoundaryData) (p : BoundaryPart) :
    (s.boundaryPart b p).port.params = s.port.params ∧ (s.boundaryPart b p).port.store = s.port.store ∧
    (s.boundaryPart b p).port.fingerprint = s.port.fingerprint ∧
    (s.boundaryPart b p).port.committed = s.port.committed ∧
    (s.boundaryPart b p).port.station = s.port.station ∧
    (s.boundaryPart b p).port.countStrap = s.port.countStrap ∧
    (s.boundaryPart b p).port.enable = s.port.enable ∧
    (s.boundaryPart b p).port.staging = s.port.staging ∧
    (s.boundaryPart b p).port.window = s.port.window ∧ (s.boundaryPart b p).port.gap = s.port.gap ∧
    (s.boundaryPart b p).det.qOn = s.det.qOn ∧ (s.boundaryPart b p).det.qOff = s.det.qOff ∧
    (s.boundaryPart b p).det.qJoin = s.det.qJoin ∧ (s.boundaryPart b p).dp.tripLevel = s.dp.tripLevel ∧
    (s.boundaryPart b p).en.full = s.en.full ∧ (s.boundaryPart b p).cap.block = s.cap.block ∧
    (s.boundaryPart b p).cap.offset = s.cap.offset ∧ (s.boundaryPart b p).cap.memory = s.cap.memory ∧
    (s.boundaryPart b p).cap.filling = s.cap.filling ∧
    (s.boundaryPart b p).cap.completed = s.cap.completed := by
  simp only [State.boundaryPart]
  (repeat' split) <;> simp

end Sys2Proof.Machine
end

