-- ==== Sys2Proof/Laws/Memory.lean ====
section
/-! SUPPORT. The capture memory (section 10-1): what a write reads back, and that every operation on the
memory keeps its canonical form. -/

namespace Sys2Proof.Machine

/-- Below its lowest listed address a canonical memory reads 0. -/
theorem Memory.read_below {low : Nat} {m : Memory} (h : Memory.wfFrom low m = true) {k : Nat} (hk : k < low) :
    m.read k = 0 := by
  induction m generalizing low with
  | nil => rfl
  | cons c rest ih =>
    obtain ⟨a, v⟩ := c
    simp only [Memory.wfFrom, Bool.and_eq_true, decide_eq_true_eq] at h
    have : a ≠ k := by omega
    simp [Memory.read, this, ih h.2 (by omega)]

/-- A canonical memory is canonical from any lower bound. -/
theorem Memory.wfFrom_mono {low low' : Nat} {m : Memory} (h : Memory.wfFrom low m = true) (hl : low' ≤ low) :
    Memory.wfFrom low' m = true := by
  cases m with
  | nil => rfl
  | cons c rest =>
    obtain ⟨a, v⟩ := c
    simp only [Memory.wfFrom, Bool.and_eq_true, decide_eq_true_eq] at h ⊢
    exact ⟨⟨by omega, h.1.2⟩, h.2⟩

/-- A write at or above the bound keeps the canonical form. -/
theorem Memory.wfFrom_write {low : Nat} {m : Memory} (h : Memory.wfFrom low m = true) {k : Nat} (w : Byte)
    (hk : low ≤ k) : Memory.wfFrom low (m.write k w) = true := by
  induction m generalizing low with
  | nil => simp only [Memory.write]; split <;> simp_all [Memory.wfFrom]
  | cons c rest ih =>
    obtain ⟨a, v⟩ := c
    have h0 := h
    simp only [Memory.wfFrom, Bool.and_eq_true, decide_eq_true_eq] at h
    simp only [Memory.write]
    split
    · simp only [Memory.wfFrom, Bool.and_eq_true, decide_eq_true_eq]
      exact ⟨h.1, ih h.2 (by omega)⟩
    · split
      · split
        · exact Memory.wfFrom_mono h.2 (by omega)
        · next e hw =>
          subst e
          simp only [Memory.wfFrom, Bool.and_eq_true, decide_eq_true_eq]
          exact ⟨⟨hk, hw⟩, h.2⟩
      · split
        · exact h0
        · next hw =>
          simp only [Memory.wfFrom, Bool.and_eq_true, decide_eq_true_eq]
          exact ⟨⟨hk, hw⟩, ⟨⟨by omega, h.1.2⟩, h.2⟩⟩

/-- A write keeps the canonical form. -/
@[simp] theorem Memory.wf_write {m : Memory} (h : m.wf = true) (k : Nat) (w : Byte) : (m.write k w).wf = true :=
  Memory.wfFrom_write h w (Nat.zero_le k)

/-- A byte reads back as written, and every other address reads as before. -/
theorem Memory.read_write {m : Memory} (h : m.wf = true) (k j : Nat) (w : Byte) :
    (m.write k w).read j = if j = k then w else m.read j := by
  suffices ∀ low, Memory.wfFrom low m = true → (m.write k w).read j = if j = k then w else m.read j from
    this 0 h
  clear h
  intro low h
  induction m generalizing low with
  | nil =>
    simp only [Memory.write]
    split
    · next hw => split <;> simp only [Memory.read, hw]
    · by_cases e : j = k
      · simp only [Memory.read, e, if_true]
      · simp only [Memory.read, e, Ne.symm e, if_false]
  | cons c rest ih =>
    obtain ⟨a, v⟩ := c
    simp only [Memory.wfFrom, Bool.and_eq_true, decide_eq_true_eq] at h
    have below := fun (i : Nat) (hi : i < a + 1) => Memory.read_below h.2 hi
    simp only [Memory.write]
    split
    · by_cases e : a = j
      · have : j ≠ k := by omega
        simp [Memory.read, e, this]
      · simp [Memory.read, e, ih _ h.2]
    · split
      · next e =>
        subst e
        split
        · next hw =>
          by_cases e : j = a
          · subst e; simp [below, hw]
          · simp [Memory.read, e, Ne.symm e]
        · by_cases e : j = a
          · simp [Memory.read, e]
          · simp [Memory.read, e, Ne.symm e]
      · split
        · next hw =>
          by_cases e : j = k
          · subst e
            have : a ≠ j := by assumption
            simp [Memory.read, this, below j (by omega), hw]
          · simp [e]
        · by_cases e : j = k
          · simp [Memory.read, e]
          · simp [Memory.read, e, Ne.symm e]

/-- Writing a word keeps the canonical form. -/
@[simp] theorem Memory.wf_writeWord {m : Memory} (h : m.wf = true) (a : Nat) (v : Int) :
    (m.writeWord a v).wf = true := by simp [Memory.writeWord, h]

/-- Writing some words of a block keeps the canonical form. -/
@[simp] theorem Memory.wf_writeWords {m : Memory} (h : m.wf = true) (moved : Nat → Bool) (b w : Nat)
    (vs : List Int) : (Memory.writeWords moved b w vs m).wf = true := by
  induction vs generalizing w m with
  | nil => simpa [Memory.writeWords] using h
  | cons v rest ih =>
    simp only [Memory.writeWords]
    split
    · exact ih (Memory.wf_writeWord h _ _) _
    · exact ih h _

/-- A block copy keeps the canonical form. -/
@[simp] theorem Memory.wf_copyBlock {m : Memory} (h : m.wf = true) (b : Nat) (vs : List Int) :
    (m.copyBlock b vs).wf = true := Memory.wf_writeWords h _ _ _ _

/-- The memory after a reset is in canonical form. -/
theorem State.reset_memory_wf : State.reset.cap.memory.wf = true := rfl

/-- What a written word reads back as, and that it writes no other byte. -/
theorem Memory.read_writeWord {m : Memory} (h : m.wf = true) (a j : Nat) (v : Int) :
    (m.writeWord a v).read j =
      if j = a + 1 then lowByte v else if j = a then highByte v else m.read j := by
  simp only [Memory.writeWord]
  rw [Memory.read_write (Memory.wf_write h _ _), Memory.read_write h]

/-- Writing words `w` to `w + vs.length - 1` of block `b` leaves every other byte, and each of those words
holds its new bytes when it was moved and its old ones otherwise. -/
theorem Memory.read_writeWords {m : Memory} (h : m.wf = true) (moved : Nat → Bool) (b w : Nat)
    (vs : List Int) :
    (∀ j, j < wordAddress b w ∨ wordAddress b (w + vs.length) ≤ j →
      (Memory.writeWords moved b w vs m).read j = m.read j) ∧
    ∀ i, i < vs.length → (Memory.writeWords moved b w vs m).wordBytes b (w + i) =
      if moved (w + i) then [highByte (vs.getD i 0), lowByte (vs.getD i 0)] else m.wordBytes b (w + i) := by
  induction vs generalizing w m with
  | nil => exact ⟨fun _ _ => rfl, fun i hi => absurd hi (Nat.not_lt_zero i)⟩
  | cons v rest ih =>
    have keep : ∀ j, j < wordAddress b w ∨ wordAddress b (w + 1) ≤ j →
        (if moved w then m.writeWord (wordAddress b w) v else m).read j = m.read j := by
      intro j hj
      simp only [wordAddress, Config.blockWords] at hj
      split
      · rw [Memory.read_writeWord h, if_neg, if_neg] <;> simp only [wordAddress, Config.blockWords] <;> omega
      · rfl
    have hw : (if moved w then m.writeWord (wordAddress b w) v else m).wf = true := by
      split
      · exact Memory.wf_writeWord h _ _
      · exact h
    obtain ⟨out, inn⟩ := ih hw (w + 1)
    simp only [Memory.writeWords, List.length_cons]
    refine ⟨fun j hj => ?_, fun i hi => ?_⟩
    · have e : w + 1 + rest.length = w + (rest.length + 1) := by omega
      have hj' : j < wordAddress b w ∨ wordAddress b (w + 1 + rest.length) ≤ j := by rwa [e]
      simp only [wordAddress, Config.blockWords] at hj'
      rw [out, keep] <;> simp only [wordAddress, Config.blockWords] <;> omega
    · cases i with
      | zero =>
        have at0 : ∀ k, k < 2 → (Memory.writeWords moved b (w + 1) rest
            (if moved w then m.writeWord (wordAddress b w) v else m)).read (wordAddress b w + k)
              = (if moved w then m.writeWord (wordAddress b w) v else m).read (wordAddress b w + k) := by
          intro k hk
          exact out _ (Or.inl (by simp only [wordAddress, Config.blockWords]; omega))
        simp only [Memory.wordBytes, Nat.add_zero, List.getD_cons_zero]
        have e0 := at0 0 (by omega)
        simp only [Nat.add_zero] at e0
        rw [e0, at0 1 (by omega)]
        split
        · rw [Memory.read_writeWord h, Memory.read_writeWord h]
          simp
        · rfl
      | succ i =>
        have := inn i (by omega)
        have e : w + 1 + i = w + (i + 1) := by omega
        rw [e] at this
        rw [this, List.getD_cons_succ]
        split
        · rfl
        · simp only [Memory.wordBytes]
          rw [keep, keep] <;> simp only [wordAddress, Config.blockWords] <;> omega

/-- A block copy of 384 words: the block reads as the words copied, and every other byte as before (R145). -/
theorem Memory.read_copyBlock {m : Memory} (h : m.wf = true) (b : Nat) (vs : List Int) :
    (∀ j, j < wordAddress b 0 ∨ wordAddress b vs.length ≤ j → (m.copyBlock b vs).read j = m.read j) ∧
    ∀ i, i < vs.length → (m.copyBlock b vs).wordBytes b i
      = [highByte (vs.getD i 0), lowByte (vs.getD i 0)] := by
  have := Memory.read_writeWords h (fun _ => true) b 0 vs
  simpa [Memory.copyBlock] using this

end Sys2Proof.Machine
end

