-- ==== Sys2Proof/Laws/Ops.lean ====
section
/-! SUPPORT. What each shared operation writes: beside the frame lemmas, the values it gives the fields it
does write. -/

namespace Sys2Proof.Machine

/-! ## Events, queue, channels -/

/-- Raising an event sets its bit and nothing else (R162). -/
theorem State.raise_eq (s : State) (e : Event) :
    s.raise e = { s with port := { s.port with pending := s.port.pending ||| e.bit } } := rfl

@[simp] theorem TxQueue.get_set_self (q : TxQueue) (p : Option Pending) (c : FrameClass) :
    (q.set p c).get c = p := by cases c <;> rfl

theorem TxQueue.get_set_ne (q : TxQueue) (p : Option Pending) (c d : FrameClass) (h : d ≠ c) :
    (q.set p c).get d = q.get d := by cases c <;> cases d <;> first | rfl | exact absurd rfl h

/-- Queueing a frame leaves one pending of its class, and every other class as it was (R119). -/
theorem State.enqueue_get (s : State) (c d : FrameClass) :
    (s.enqueue c).line.queue.get d =
      if d = c then some ((s.line.queue.get c).getD ⟨0, s.inst.work.isSome⟩) else s.line.queue.get d := by
  by_cases h : d = c
  · subst h
    cases e : s.line.queue.get d <;> simp [State.enqueue, e]
  · simp only [State.enqueue, h, if_false]
    split
    · rfl
    · exact TxQueue.get_set_ne _ _ _ _ h

@[simp] theorem Capture.channel_modChannel_self (c : Capture) (one : Bool) (f : Channel → Channel) :
    (c.modChannel one f).channel one = f (c.channel one) := by cases one <;> rfl

@[simp] theorem Capture.channel_modChannel_not (c : Capture) (one : Bool) (f : Channel → Channel) :
    (c.modChannel one f).channel (!one) = c.channel (!one) := by cases one <;> rfl

/-- A channel that enters IDLE (R144). -/
theorem State.endCapture_channel (s : State) (one : Bool) (st : CaptureStatus) :
    ((s.endCapture one st).cap.channel one)
      = { s.cap.channel one with state := .idle, status := st, disarm := false } := by
  cases one <;> rfl

/-- A trigger changes nothing unless the channel is ARMED for its kind (R143). -/
theorem State.triggerOne_idle (s : State) (k : TriggerKind) (one : Bool)
    (h : (s.cap.channel one).awaits k = false) : s.triggerOne k one = s := by
  simp [State.triggerOne, h]

/-- Outside the boundary's work after the channels' own, a trigger makes the channel ARMED for its kind
CAPTURING, and changes nothing else (R143). -/
theorem State.triggerOne_starts (s : State) (k : TriggerKind) (one : Bool)
    (h : (s.cap.channel one).awaits k = true) (hw : (s.inst.work.isSome && s.inst.captured) = false) :
    s.triggerOne k one = s.modCap fun c => c.modChannel one fun ch =>
      { ch with state := .capturing, cycle := s.triggerCycle } := by
  simp [State.triggerOne, h, hw]

/-! ## Service state, share, template ring -/

/-- A change of service state: the state and the permission of Table 4-1.1 (R62); nothing else of the
controller. -/
@[simp] theorem State.setService_ctl (s : State) (t : ServiceState) :
    (s.setService t).ctl = { s.ctl with service := t, charge := t.charges } := by
  simp only [State.setService]
  (repeat' split) <;> simp [State.setCharge]

/-- CHG_EN after a change of service state (R83). -/
@[simp] theorem State.setService_en (s : State) (t : ServiceState) :
    (s.setService t).en = { s.en with chgEn := t.charges && decide (s.tb.vdc < s.port.params.vfull) } := by
  simp only [State.setService]
  (repeat' split) <;> (simp [State.setCharge, State.chargerOn]; try rfl)

/-- The detector after a change of service state (R44). -/
theorem State.setService_det (s : State) (t : ServiceState) :
    (s.setService t).det = if s.injecting && decide (t ≠ .injecting) then
      { s.det with restoreCount := 0, restoreNotice := false } else s.det := by
  simp only [State.setService]
  (repeat' split) <;> simp_all [State.leaveInjecting]

/-- The share set, and handed to the datapath (R107, R109). -/
theorem State.setShare_eq (s : State) : s.setShare = { s with
    su := { s.su with
      members := s.su.memberPeers, selfMember := s.selfMember
      count := s.su.memberPeers.length + bit s.selfMember, share := s.shareNow }
    dp := { s.dp with share := s.shareNow } } := rfl

/-- Emptying the ring (R23): no held cycle, and the emptied flag. -/
@[simp] theorem State.emptyRing_tmpl (s : State) :
    s.emptyRing.tmpl = { s.tmpl with ring := [], emptied := true } := by
  simp only [State.emptyRing]
  (repeat' split) <;> simp

/-- What the ring's leaving VALID brings to the controller (R49). -/
theorem State.emptyRing_ctl (s : State) :
    s.emptyRing.ctl = if s.valid && decide (s.ctl.service = .standby) then
      { s.ctl with service := .syncing, charge := true } else s.ctl := by
  simp only [State.emptyRing]
  (repeat' split) <;> simp_all [ServiceState.charges]

/-! ## Records -/

@[simp] theorem modLast_length {α : Type} (f : α → α) (l : List α) : (modLast f l).length = l.length := by
  induction l using modLast.induct <;> simp_all [modLast]

@[simp] theorem modLast_append {α : Type} (f : α → α) (l : List α) (x : α) :
    modLast f (l ++ [x]) = l ++ [f x] := by
  induction l with
  | nil => rfl
  | cons a rest ih => cases rest <;> simp_all [modLast]

@[simp] theorem modLast_modLast {α : Type} (f g : α → α) (l : List α) :
    modLast f (modLast g l) = modLast (fun x => f (g x)) l := by
  rcases List.eq_nil_or_concat l with rfl | ⟨l, x, rfl⟩
  · rfl
  · simp

@[simp] theorem modLast_getLast? {α : Type} (f : α → α) (l : List α) :
    (modLast f l).getLast? = l.getLast?.map f := by
  rcases List.eq_nil_or_concat l with rfl | ⟨l, x, rfl⟩
  · rfl
  · simp

@[simp] theorem modLast_dropLast {α : Type} (f : α → α) (l : List α) :
    (modLast f l).dropLast = l.dropLast := by
  rcases List.eq_nil_or_concat l with rfl | ⟨l, x, rfl⟩
  · rfl
  · simp

/-- Opening a record (R131, R132): the new record is the newest, the oldest dropped from a full ring. -/
theorem State.openRecord_ep (s : State) (o : Onset) :
    (s.openRecord o).ep.records
        = (if 16 ≤ s.ep.records.length then s.ep.records.tail else s.ep.records)
          ++ [s.makeRoom.newRecord o] ∧
      (s.openRecord o).ep.next = s.ep.next + 1 ∧
      (s.openRecord o).ep.current = some ⟨s.en.credit, none, ⟨0, 0, 0⟩⟩ ∧
      (s.openRecord o).ep.selection = s.ep.selection := by
  by_cases h : 16 ≤ s.ep.records.length <;> simp [State.openRecord, State.makeRoom, Config.ringSize, h]

/-- Closing a record with its event (R136). -/
theorem State.closeRecord_ep (s : State) (out : EpisodeOutcome) (h : s.recordOpen = true) :
    (s.closeRecord out).ep = { s.ep with
      records := modLast (fun r => { r with outcome := out, energy := s.energyUsed }) s.ep.records
      current := none } := by
  simp [State.closeRecord, State.closeQuietly, h, State.modRecord]

/-! ## Hand-back, faults, trips, onsets -/

/-- A cause that cannot be taken changes nothing (R52). -/
theorem State.takeCause_none (s : State) (c : Cause)
    (h : (s.injecting && (decide (s.ctl.bypass = .opening) || decide (s.ctl.bypass = .opened))) = false) :
    s.takeCause c = s := by simp [State.takeCause, h]

/-- A cause that is taken begins hand-back (R52, R53): the controller after it. -/
theorem State.takeCause_ctl (s : State) (c : Cause) (hi : s.ctl.service = .injecting)
    (hb : s.ctl.bypass = .opening ∨ s.ctl.bypass = .opened) :
    (s.takeCause c).ctl = { s.ctl with
      bypass := .closing, commandOpen := false, timer := 64, closeFailed := false, cause := some c } := by
  have h : (s.injecting && (decide (s.ctl.bypass = .opening) || decide (s.ctl.bypass = .opened))) = true := by
    rcases hb with hb | hb <;> simp [State.injecting, hi, hb]
  simp only [State.takeCause, h, if_true, State.beginHandback]
  (repeat' split) <;> simp [State.emptyRing_ctl, State.beginClosing, hi, Config.closeBound]

/-- The first-fault record takes a report (R153). -/
theorem State.recordFault_fm (s : State) (k : FaultKind) (p : Option Phase) (d : Option Nat) :
    (s.recordFault k p d).fm = { s.fm with first :=
      if s.fm.first.kind.isNone then
        ⟨some k, s.ctl.service, s.faultStamp.1, s.faultStamp.2, p, d, 0⟩
      else { s.fm.first with later := countUp 255 s.fm.first.later } } := by
  simp only [State.recordFault]
  split <;> simp

/-- A HANDBACK or a NOTE passes nothing to the controller (R150). -/
theorem State.report_note (s : State) (k : FaultKind) (p : Option Phase) (d : Option Nat)
    (h : k.trips = false) : s.report k p d = s.recordFault k p d := by simp [State.report, h]

/-- The bypass after a trip (R58): the controller after it. -/
theorem State.tripBypass_ctl (s : State) (k : FaultKind) :
    (s.tripBypass k).ctl =
      match s.ctl.bypass with
      | .opening | .opened => { s.ctl with
          bypass := .closing, commandOpen := false, timer := 64, closeFailed := false }
      | .closing => s.ctl
      | .closed => if k = .bypassUncommanded then { s.ctl with
          bypass := .closing, commandOpen := false, timer := 64, closeFailed := false, gates := true }
        else s.ctl := by
  cases h : s.ctl.bypass
  case closed =>
    simp only [State.tripBypass, h]
    split <;> simp [State.beginClosing, Config.closeBound]
  all_goals simp [State.tripBypass, h, State.beginClosing, Config.closeBound]

/-- The entry to LOCKOUT (R57): the service state, the charger, the cause and the re-onset flag. -/
theorem State.enterLockout_ctl (s : State) (k : FaultKind) :
    (s.enterLockout k).ctl.service = .lockout ∧ (s.enterLockout k).ctl.charge = false ∧
      (s.enterLockout k).ctl.cause = none ∧ (s.enterLockout k).ctl.reonset = false := by
  have h : ∀ u : State, (u.tripBypass k).ctl.service = u.ctl.service ∧
      (u.tripBypass k).ctl.charge = u.ctl.charge ∧ (u.tripBypass k).ctl.cause = u.ctl.cause ∧
      (u.tripBypass k).ctl.reonset = u.ctl.reonset := by
    intro u
    rw [State.tripBypass_ctl]
    split <;> (try split) <;> simp
  simp [State.enterLockout, h, ServiceState.charges]

/-- The controller at a served onset (R50). -/
theorem State.openEpisode_ctl (s : State) (o : Onset) :
    (s.openEpisode o).ctl = { s.ctl with
      service := .injecting, charge := true, bypass := .opening, commandOpen := true, gates := true
      timer := 48, uncommanded := 0, cause := none, reonset := false } := by
  simp [State.openEpisode, ServiceState.charges, Config.openBound]

/-- The datapath and the template store at a served onset (R17, R73, R91). -/
theorem State.openEpisode_blocks (s : State) (o : Onset) :
    (s.openEpisode o).dp.g = .all 256 ∧ (s.openEpisode o).dp.plan = .all ⟨true, 256⟩ ∧
      (s.openEpisode o).tmpl = { s.tmpl with injected := true } := by
  simp [State.openEpisode]

end Sys2Proof.Machine
end

