-- ==== Sys2Proof/Laws/Order.lean ====
section
/-! SUPPORT. The orders in which parts take an event (log 8): every part takes it exactly once, and what
every part keeps, the event keeps. -/

namespace Sys2Proof.Machine

/-- The order collects each element of the list once, after those already collected. -/
theorem takeOrder_fold {α : Type} [DecidableEq α] (l done : List α) (hd : done.Nodup) :
    (l.foldl (fun done p => if p ∈ done then done else done ++ [p]) done).Nodup ∧
    ∀ x, x ∈ l.foldl (fun done p => if p ∈ done then done else done ++ [p]) done ↔ x ∈ done ∨ x ∈ l := by
  induction l generalizing done with
  | nil => simpa using hd
  | cons p rest ih =>
    simp only [List.foldl_cons]
    by_cases h : p ∈ done
    · simp only [h, if_true]
      refine ⟨(ih done hd).1, fun x => ?_⟩
      rw [(ih done hd).2]
      constructor
      · rintro (hx | hx) <;> simp [hx]
      · rintro (hx | hx)
        · exact .inl hx
        · rcases List.mem_cons.1 hx with rfl | hx
          · exact .inl h
          · exact .inr hx
    · simp only [h, if_false]
      have hn : (done ++ [p]).Nodup := by
        rw [List.nodup_append]
        refine ⟨hd, by simp, ?_⟩
        rintro a ha b hb rfl
        exact h (by simpa using (List.mem_singleton.1 hb) ▸ ha)
      refine ⟨(ih _ hn).1, fun x => ?_⟩
      rw [(ih _ hn).2]
      simp [or_assoc]

/-- The order taken is some arrangement of all the parts. -/
theorem takeOrder_perm {α : Type} [DecidableEq α] (named all : List α) (hn : all.Nodup)
    (ha : ∀ x ∈ named, x ∈ all) : (takeOrder named all).Perm all := by
  unfold takeOrder
  have h := takeOrder_fold (named ++ all) [] List.nodup_nil
  rw [List.perm_ext_iff_of_nodup h.1 hn]
  intro x
  rw [h.2]
  simp only [List.not_mem_nil, false_or, List.mem_append]
  exact ⟨fun hx => hx.elim (ha x) id, .inr⟩

/-- Every part of a sample event takes it exactly once. -/
theorem takeOrder_sampleParts (order : List SamplePart) : (takeOrder order sampleParts).Perm sampleParts :=
  takeOrder_perm _ _ (by decide) (fun x _ => by cases x <;> decide)

/-- Every block takes a boundary exactly once. -/
theorem takeOrder_boundaryParts (order : List BoundaryPart) :
    (takeOrder order boundaryParts).Perm boundaryParts :=
  takeOrder_perm _ _ (by decide) (fun x _ => by cases x <;> decide)

/-- What every part keeps, a run of parts keeps. -/
theorem foldl_keeps {α β : Type} (P : α → Prop) (f : α → β → α) (l : List β) (s : α) (hs : P s)
    (h : ∀ t p, P t → P (f t p)) : P (l.foldl f s) := by
  induction l generalizing s with
  | nil => exact hs
  | cons p rest ih => exact ih _ (h s p hs)

/-- A part that establishes what every part keeps establishes it for the whole event, in any order. -/
theorem foldl_establishes {α β : Type} (P Q : α → Prop) (f : α → β → α) (l : List β) (p : β) (hp : p ∈ l)
    (s : α) (hs : P s) (keepP : ∀ t q, P t → P (f t q)) (make : ∀ t, P t → Q (f t p))
    (keepQ : ∀ t q, P t → Q t → Q (f t q)) : Q (l.foldl f s) := by
  induction l generalizing s with
  | nil => exact absurd hp (by simp)
  | cons q rest ih =>
    rcases List.mem_cons.1 hp with rfl | hp
    · exact (foldl_keeps (fun t => P t ∧ Q t) f rest _ ⟨keepP s p hs, make s hs⟩
        (fun t q ht => ⟨keepP t q ht.1, keepQ t q ht.1 ht.2⟩)).2
    · exact ih hp _ (keepP s q hs)

end Sys2Proof.Machine
end

