-- ==== Sys2Proof/Laws/Receive.lean ====
section
/-! SUPPORT. What the bits of a frame do to a controller that follows it: the checks at each bit agree with
those of the whole frame, and the bits of an accepted frame hand it on, with the run counts moved. -/

namespace Sys2Proof.Machine

/-! ## The run counts -/

@[simp] theorem Line.countBits_nil (l : Line) : l.countBits [] = l := rfl

@[simp] theorem Line.countBits_cons (l : Line) (b : Bool) (bits : List Bool) :
    l.countBits (b :: bits) = (l.countBit b).countBits bits := rfl

theorem Line.countBits_append (l : Line) (a b : List Bool) :
    l.countBits (a ++ b) = (l.countBits a).countBits b := List.foldl_append

/-- A bit moves nothing but the run counts. -/
theorem Line.countBit_eq (l : Line) (b : Bool) : l.countBit b = { l with
    dominant := if b then 0 else min 24 (l.dominant + 1)
    recessive := if b then min 11 (l.recessive + 1) else 0 } := by
  cases b <;> rfl

/-- Bits move nothing but the run counts. -/
theorem Line.countBits_eq (l : Line) (bits : List Bool) : l.countBits bits = { l with
    dominant := (l.countBits bits).dominant, recessive := (l.countBits bits).recessive } := by
  induction bits generalizing l with
  | nil => rfl
  | cons b bits ih =>
    rw [Line.countBits_cons, ih, Line.countBit_eq]

/-- The tracking does not matter to the run counts. -/
theorem Line.countBits_tracking (l : Line) (t : Tracking) (bits : List Bool) :
    ({ l with tracking := t } : Line).countBits bits = { l.countBits bits with tracking := t } := by
  induction bits generalizing l with
  | nil => rfl
  | cons b bits ih =>
    have h : ({ l with tracking := t } : Line).countBit b = { l.countBit b with tracking := t } := by
      cases b <;> rfl
    rw [Line.countBits_cons, h, ih, Line.countBits_cons]

@[simp] theorem Line.countBits_keep (l : Line) (bits : List Bool) :
    (l.countBits bits).queue = l.queue ∧ (l.countBits bits).seq = l.seq ∧
    (l.countBits bits).throttle = l.throttle ∧ (l.countBits bits).tec = l.tec ∧
    (l.countBits bits).recErrors = l.recErrors ∧ (l.countBits bits).dropped = l.dropped ∧
    (l.countBits bits).state = l.state ∧ (l.countBits bits).back = l.back ∧
    (l.countBits bits).silentTimer = l.silentTimer ∧ (l.countBits bits).tracking = l.tracking ∧
    (l.countBits bits).mute = l.mute := by
  rw [Line.countBits_eq]; simp

@[simp] theorem State.receiveBits_nil (s : State) : s.receiveBits [] = s := rfl

@[simp] theorem State.receiveBits_cons (s : State) (b : Bool) (bits : List Bool) :
    s.receiveBits (b :: bits) = (s.sampleBit b).receiveBits bits := rfl

theorem State.receiveBits_append (s : State) (a b : List Bool) :
    s.receiveBits (a ++ b) = (s.receiveBits a).receiveBits b := List.foldl_append

/-! ## The checks at a bit look at no later bit -/

theorem lineBit_take (bits : List Bool) (m k : Nat) (h : k < m) : lineBit (bits.take m) k = lineBit bits k := by
  simp [lineBit, List.getD_eq_getElem?_getD, h]

theorem fieldAt_take (bits : List Bool) (m k n : Nat) (h : k + n ≤ m) :
    fieldAt (bits.take m) k n = fieldAt bits k n := by
  unfold fieldAt
  congr 1
  apply List.map_congr_left
  intro j hj
  exact lineBit_take _ _ _ (by have := List.mem_range.mp hj; omega)

theorem failsAt_take (bits : List Bool) (k : Nat) : failsAt (bits.take (k + 1)) k = failsAt bits k := by
  unfold failsAt
  by_cases h0 : k = 0
  · simp [h0, lineBit_take]
  by_cases h3 : k = 3
  · simp [h3, fieldAt_take]
  by_cases h10 : k < 11
  · by_cases h : k = 10
    · simp [h, fieldAt_take]
    · have a : ∀ n, k ≠ 19 + 9 * n := by omega
      have b : ∀ n, ¬ 21 + 9 * n ≤ k := by omega
      simp [h0, h3, h, a, b, show k ≠ 28 by omega, show k ≠ 11 by omega, show ¬ 20 ≤ k by omega]
  · have hn : fieldAt (bits.take (k + 1)) 7 4 = fieldAt bits 7 4 := fieldAt_take _ _ _ _ (by omega)
    have hc : fieldAt (bits.take (k + 1)) 1 3 = fieldAt bits 1 3 := fieldAt_take _ _ _ _ (by omega)
    have hs : fieldAt (bits.take (k + 1)) 4 3 = fieldAt bits 4 3 := fieldAt_take _ _ _ _ (by omega)
    simp only [hn, hc, hs, lineBit_take bits (k + 1) k (by omega)]
    simp only [h0, h3, show k ≠ 10 by omega, if_false]
    by_cases h28 : k = 28
    · simp [h28, fieldAt_take]
    · simp only [h28, if_false]
      by_cases hk : k = 19 + 9 * fieldAt bits 7 4
      · have hp : (List.range (fieldAt bits 7 4)).map (payloadAt (bits.take (k + 1)))
            = (List.range (fieldAt bits 7 4)).map (payloadAt bits) := by
          apply List.map_congr_left
          intro j hj
          have := List.mem_range.mp hj
          simp only [payloadAt]
          rw [fieldAt_take _ _ _ _ (by omega)]
        rw [hp, fieldAt_take bits (k + 1) (12 + 9 * fieldAt bits 7 4) 8 (by omega)]
      · simp [hk]

/-- Where no check fails at a bit, the spacer, end and intermission bits are recessive. -/
theorem failsAt_spacer (bits : List Bool) (k : Nat) (h : failsAt bits k = false)
    (hk : k = 11 ∨ (20 ≤ k ∧ (k - 20) % 9 = 0)) : lineBit bits k = true := by
  unfold failsAt at h
  have h19 : k ≠ 19 + 9 * fieldAt bits 7 4 := by omega
  simp only [show k ≠ 0 by omega, show k ≠ 3 by omega, show k ≠ 10 by omega, show k ≠ 28 by omega, h19,
    if_false] at h
  rcases hk with hk | ⟨h20, h9⟩
  · simpa [hk] using h
  · by_cases hn : k ≤ 20 + 9 * fieldAt bits 7 4
    · simpa [h20, h9, hn] using h
    · simpa [show 21 + 9 * fieldAt bits 7 4 ≤ k by omega] using h

/-! ## A whole frame -/

/-- What an accepted frame's bits are: every check of R128 holds of them. -/
theorem receiveFrame_checks (bits : List Bool) (f : Frame) (h : receiveFrame bits = some f) :
    FrameClass.ofCode (fieldAt bits 1 3) = some f.cls ∧ f.payload.length = fieldAt bits 7 4 ∧
    formHolds bits (fieldAt bits 7 4) = true ∧ 2 ≤ fieldAt bits 7 4 ∧ fieldAt bits 7 4 ≤ 8 ∧
    f.cls.length ≤ fieldAt bits 7 4 ∧ (ServiceState.ofFrame (byteAt f.payload 1 % 16)).isSome ∧
    f.payload = (List.range (fieldAt bits 7 4)).map (payloadAt bits) ∧
    crc8 (headerBytes (fieldAt bits 1 3) (fieldAt bits 4 3) (fieldAt bits 7 4) ++ f.payload)
      = byteOf (fieldAt bits (12 + 9 * fieldAt bits 7 4) 8) := by
  unfold receiveFrame at h
  simp only at h
  split at h
  · cases h
  · rename_i c hc
    split at h
    · rename_i hh
      simp only [Bool.and_eq_true, decide_eq_true_eq] at hh
      obtain ⟨⟨⟨⟨⟨a, b⟩, c'⟩, d⟩, e⟩, g⟩ := hh
      cases h
      exact ⟨hc, by simp, a, b, c', d, e, rfl, g⟩
    · cases h

/-- The low half of a byte on the line. -/
theorem fieldAt_low (bits : List Bool) (k : Nat) : (byteOf (fieldAt bits k 8)).toNat % 16 = fieldAt bits (k + 4) 4 := by
  have hb : ∀ b, bit b ≤ 1 := by intro b; cases b <;> simp [bit]
  simp only [byteOf, BitVec.toNat_ofNat, fieldAt, numberOf, List.range_succ, List.range_zero, List.nil_append,
    List.cons_append, List.map_cons, List.map_nil, List.foldl_cons, List.foldl_nil, Nat.add_assoc,
    Nat.reduceAdd]
  have := hb (lineBit bits (k + 0)); have := hb (lineBit bits (k + 1)); have := hb (lineBit bits (k + 2))
  have := hb (lineBit bits (k + 3)); have := hb (lineBit bits (k + 4)); have := hb (lineBit bits (k + 5))
  have := hb (lineBit bits (k + 6)); have := hb (lineBit bits (k + 7))
  omega

/-- No check fails at any bit of an accepted frame. -/
theorem failsAt_of_accepted (bits : List Bool) (f : Frame) (h : receiveFrame bits = some f) (k : Nat)
    (hk : k < 28 + 9 * f.payload.length) : failsAt bits k = false := by
  obtain ⟨hc, hl, hf, h2, h8, hcl, hst, hp, hcrc⟩ := receiveFrame_checks bits f h
  simp only [formHolds, Bool.and_eq_true, Bool.not_eq_true', List.all_eq_true, List.mem_range] at hf
  obtain ⟨⟨⟨f0, f11⟩, fs⟩, fe⟩ := hf
  unfold failsAt
  by_cases h0 : k = 0
  · simp [h0, f0]
  by_cases h3 : k = 3
  · simp [h3, hc]
  by_cases h10 : k = 10
  · simp [h10, hc, h2, h8, hcl]
  simp only [h0, h3, h10, if_false]
  by_cases h28 : k = 28
  · have : byteAt f.payload 1 % 16 = fieldAt bits 25 4 := by
      rw [hp]
      have : (List.map (payloadAt bits) (List.range (fieldAt bits 7 4))).getD 1 0 = payloadAt bits 1 := by
        simp [List.getD_eq_getElem?_getD, show 1 < fieldAt bits 7 4 by omega]
      simp only [byteAt, this, payloadAt]
      exact fieldAt_low bits 21
    rw [this] at hst
    simp only [h28, if_true]
    cases hh : ServiceState.ofFrame (fieldAt bits 25 4) <;> simp_all
  simp only [h28, if_false]
  by_cases h19 : k = 19 + 9 * fieldAt bits 7 4
  · simp only [h19, if_true]
    rw [← hp, hcrc]
    simp
  simp only [h19, if_false]
  by_cases h11 : k = 11
  · simp [h11, f11]
  by_cases hsp : 20 ≤ k ∧ (k - 20) % 9 = 0 ∧ k ≤ 20 + 9 * fieldAt bits 7 4
  · have := fs ((k - 20) / 9) (by omega)
    rw [show 20 + 9 * ((k - 20) / 9) = k by omega] at this
    simp [this]
  by_cases he : 21 + 9 * fieldAt bits 7 4 ≤ k
  · have := fe (k - 21 - 9 * fieldAt bits 7 4) (by omega)
    rw [show 21 + 9 * fieldAt bits 7 4 + (k - 21 - 9 * fieldAt bits 7 4) = k by omega] at this
    simp [this]
  · simp only [h11, he, decide_false, Bool.false_or, Bool.or_false]
    cases hb : (decide (20 ≤ k) && decide ((k - 20) % 9 = 0) && decide (k ≤ 20 + 9 * fieldAt bits 7 4)) with
    | false => rfl
    | true =>
      simp only [Bool.and_eq_true, decide_eq_true_eq] at hb
      exact absurd ⟨hb.1.1, hb.1.2, hb.2⟩ hsp

/-! ## The bits of a frame that is followed -/

/-- A dominant bit at which no check fails keeps the run within a frame's own. -/
theorem followRun_succ (bits : List Bool) (k : Nat) (h : failsAt bits k = false) (hb : lineBit bits k = false) :
    followRun k + 1 = followRun (k + 1) := by
  have h11 : k ≠ 11 := by
    rintro rfl; simp [failsAt_spacer bits 11 h (.inl rfl)] at hb
  have h20 : ¬ (20 ≤ k ∧ (k - 20) % 9 = 0) := by
    intro hk; simp [failsAt_spacer bits k h (.inr hk)] at hb
  unfold followRun
  split <;> split <;> omega

theorem followRun_le (n : Nat) : followRun n ≤ 11 := by
  unfold followRun; split <;> omega

/-- One bit of a frame that is followed: it is counted, and taken as the next bit of that frame. -/
theorem State.sampleBit_followed (s : State) (read : List Bool) (b : Bool) (hh : s.line.heard = some read)
    (hd : s.line.dominant < 23) (h0 : read = [] → b = false) :
    s.sampleBit b = (s.modLine fun l => l.countBit b).followBit read b := by
  have hne : (s.line.countBit b).dominant ≠ 24 := by
    rw [Line.countBit_eq]; cases b <;> (simp; try omega)
  have hst : (s.line.countBit b).state = s.line.state := by rw [Line.countBit_eq]
  have htr : (s.line.countBit b).tracking = s.line.tracking := by rw [Line.countBit_eq]
  unfold Line.heard at hh
  unfold State.sampleBit State.hearBit
  simp only [Config.stuckBits, State.modLine_line, hne, if_false, hst, htr]
  cases ht : s.line.tracking <;> simp only [ht] at hh ⊢
  · cases hh
  · split at hh
    · cases hh
    · rename_i hs; cases hh; simp [hs, h0 rfl]
  · split at hh
    · cases hh
    · rename_i hs; cases hh; simp [hs]
  · cases hh

/-- The bits of a frame that is followed, at which no check fails and before its end: they are counted and
kept. -/
theorem State.receiveBits_followed (bits : List Bool) : ∀ (s : State) (read : List Bool), bits ≠ [] →
    s.line.heard = some read → s.line.dominant ≤ 11 + followRun read.length →
    (∀ k, read.length ≤ k → k < (read ++ bits).length → failsAt (read ++ bits) k = false) →
    (read ++ bits).length < 28 + 9 * fieldAt (read ++ bits) 7 4 →
    s.receiveBits bits = s.modLine (fun l => { l.countBits bits with tracking := .receiving (read ++ bits) })
      ∧ (s.line.countBits bits).dominant ≤ 11 + followRun (read ++ bits).length := by
  induction bits with
  | nil => intro s read h; exact absurd rfl h
  | cons b rest ih =>
    intro s read _ hh hd hf hl
    have hall : read ++ b :: rest = (read ++ [b]) ++ rest := by simp
    have htake : (read ++ b :: rest).take (read.length + 1) = read ++ [b] := by
      rw [hall, List.take_append_of_le_length (by simp)]; simp [List.take_of_length_le]
    have hfb : failsAt (read ++ b :: rest) read.length = false := hf _ (Nat.le_refl _) (by simp)
    have hfb' : failsAt (read ++ [b]) read.length = false := by rw [← htake, failsAt_take]; exact hfb
    have hbit : lineBit (read ++ b :: rest) read.length = b := by simp [lineBit]
    have hend : frameEnds (read ++ [b]) = false := by
      simp only [frameEnds, decide_eq_false_iff_not]
      intro he
      have hlen : (read ++ [b]).length = read.length + 1 := by simp
      have : fieldAt (read ++ [b]) 7 4 = fieldAt (read ++ b :: rest) 7 4 := by
        rw [← htake]; exact fieldAt_take _ _ _ _ (by omega)
      rw [this] at he
      simp at hl hlen he
      omega
    have hrun := followRun_le read.length
    have h0 : read = [] → b = false := by
      rintro rfl
      simpa [failsAt, lineBit] using hfb'
    have hstep : s.sampleBit b
        = s.modLine (fun l => { l.countBit b with tracking := .receiving (read ++ [b]) }) := by
      rw [State.sampleBit_followed s read b hh (by omega) h0]
      simp [State.followBit, hend, Line.followBit, hfb', State.modLine]
    have hdom : (s.line.countBit b).dominant ≤ 11 + followRun (read.length + 1) := by
      rw [Line.countBit_eq]
      cases b with
      | true => simp
      | false => have := followRun_succ _ _ hfb hbit; simp; omega
    rw [State.receiveBits_cons, hstep]
    by_cases hr : rest = []
    · subst hr
      exact ⟨rfl, by simpa using hdom⟩
    · have hst : s.line.state ≠ .stuck := by
        intro hs; simp [Line.heard, hs] at hh; split at hh <;> cases hh
      have hheard : (s.modLine fun l => { l.countBit b with
          tracking := .receiving (read ++ [b]) }).line.heard = some (read ++ [b]) := by
        simp [Line.heard, Line.countBit_eq, hst]
      obtain ⟨e, d⟩ := ih _ (read ++ [b]) hr hheard (by simpa using hdom)
        (fun k h1 h2 => by rw [← hall]; exact hf k (by simp at h1; omega) (by rw [hall]; exact h2))
        (by rw [← hall]; exact hl)
      constructor
      · rw [e, ← hall]
        simp only [State.modLine, Line.countBits_cons, Line.countBits_tracking]
      · rw [hall]
        simpa [Line.countBits_tracking] using d

/-- A check at a bit of a list's beginning is the check at that bit of the list. -/
theorem failsAt_append (a b : List Bool) (k : Nat) (h : k < a.length) : failsAt (a ++ b) k = failsAt a k := by
  rw [← failsAt_take, ← failsAt_take a, List.take_append_of_le_length (by omega)]

/-- What a bit of a frame does, it does whatever the tracking held. -/
theorem State.followBit_tracking (s : State) (f : Line → Line) (t : Tracking) (read : List Bool) (b : Bool) :
    (s.modLine fun l => { f l with tracking := t }).followBit read b = (s.modLine f).followBit read b := by
  unfold State.followBit
  split
  · split <;> rfl
  · simp only [State.modLine, Line.followBit, Line.failFrame]

/-- The bits of a frame that is followed, with a last one: all are counted, and the last is taken after the
bits before it. -/
theorem State.receiveBits_last (s : State) (read init : List Bool) (b : Bool)
    (hh : s.line.heard = some read) (hd : s.line.dominant ≤ 11)
    (hf : ∀ k, k < (read ++ init).length → failsAt (read ++ init ++ [b]) k = false)
    (hl : (read ++ init ++ [b]).length ≤ 28 + 9 * fieldAt (read ++ init ++ [b]) 7 4)
    (h0 : read ++ init = [] → b = false) :
    s.receiveBits (init ++ [b])
      = (s.modLine fun l => l.countBits (init ++ [b])).followBit (read ++ init) b := by
  by_cases hi : init = []
  · subst hi
    simp only [List.append_nil] at h0 ⊢
    exact State.sampleBit_followed s read b hh (by omega) h0
  · have hst : s.line.state ≠ .stuck := by
      intro hs; simp [Line.heard, hs] at hh; split at hh <;> cases hh
    obtain ⟨e, d⟩ := State.receiveBits_followed init s read hi hh (by omega)
      (fun k _ h2 => by rw [← failsAt_append _ [b] _ h2]; exact hf k h2)
      (by
        by_cases h : 11 ≤ (read ++ init).length
        · have : fieldAt (read ++ init) 7 4 = fieldAt (read ++ init ++ [b]) 7 4 := by
            rw [← fieldAt_take _ 11 7 4 (by omega), ← fieldAt_take (read ++ init ++ [b]) 11 7 4 (by omega),
              List.take_append_of_le_length h]
          rw [this]
          have : (read ++ init ++ [b]).length = (read ++ init).length + 1 := by simp; omega
          omega
        · omega)
    have hr := followRun_le (read ++ init).length
    rw [State.receiveBits_append, e]
    refine (State.sampleBit_followed (s.modLine fun l => { l.countBits init with
      tracking := .receiving (read ++ init) }) (read ++ init) b (by simp [Line.heard, hst])
      (by simp only [State.modLine_line]; omega) h0).trans ?_
    · rw [← State.followBit_tracking s _ (.receiving (read ++ init))]
      simp [State.modLine, Line.countBits_append, Line.countBit_eq]

/-- The bits that finish an accepted frame: the run counts take them, and the frame is handed on. -/
theorem State.receiveBits_accepted (s : State) (bits : List Bool) (f : Frame) (h : s.hears bits f) :
    s.receiveBits bits = (s.modLine fun l => l.countBits bits).acceptFrame f := by
  obtain ⟨hd, hne, read, hh, hlen, hf⟩ := h
  obtain ⟨init, b, rfl⟩ : ∃ init b, bits = init ++ [b] :=
    ⟨bits.dropLast, bits.getLast hne, (List.dropLast_append_getLast hne).symm⟩
  rw [← List.append_assoc] at hlen hf
  have hn := (receiveFrame_checks _ f hf).2.1
  rw [State.receiveBits_last s read init b hh hd
    (fun k hk => failsAt_of_accepted _ f hf k (by rw [← hlen, List.length_append]; omega))
    (by rw [← hn]; omega) (by intro h; rw [h] at hlen; simp at hlen; omega)]
  have he : frameEnds (read ++ init ++ [b]) = true := by simp only [frameEnds, decide_eq_true_eq]; rw [hlen, hn]
  rw [State.followBit, if_pos he, hf]

/-- The bits up to the one at which the first check fails: the frame is abandoned and counted in REC. -/
theorem State.receiveBits_failed (s : State) (read bits : List Bool) (hh : s.line.heard = some read)
    (hd : s.line.dominant ≤ 11) (hne : bits ≠ [])
    (hf : ∀ k, k + 1 < (read ++ bits).length → failsAt (read ++ bits) k = false)
    (hx : failsAt (read ++ bits) ((read ++ bits).length - 1) = true)
    (hl : (read ++ bits).length ≤ 28 + 9 * fieldAt (read ++ bits) 7 4)
    (h0 : (read ++ bits).head? = some false) :
    s.receiveBits bits = s.modLine fun l => (l.countBits bits).failFrame := by
  obtain ⟨init, b, rfl⟩ : ∃ init b, bits = init ++ [b] :=
    ⟨bits.dropLast, bits.getLast hne, (List.dropLast_append_getLast hne).symm⟩
  rw [← List.append_assoc] at hf hx hl h0
  have hlen : (read ++ init ++ [b]).length = (read ++ init).length + 1 := by simp; omega
  rw [State.receiveBits_last s read init b hh hd (fun k hk => hf k (by omega)) hl
    (by intro h; rw [h] at h0; simpa using h0)]
  rw [hlen, Nat.add_sub_cancel] at hx
  unfold State.followBit
  split
  · rename_i he
    split
    · rename_i f hr
      have := failsAt_of_accepted _ f hr (read ++ init).length (by
        have hn := (receiveFrame_checks _ f hr).2.1
        simp only [frameEnds, decide_eq_true_eq] at he
        omega)
      rw [hx] at this; cases this
    · rfl
  · simp only [State.modLine, Line.followBit, hx, if_true]

end Sys2Proof.Machine
end

