-- ==== Sys2Proof/Laws/Triggers.lean ====
section
/-! SUPPORT. What giving a capture trigger to both channels can do (R143, R144), in the words of the
statements. -/

namespace Sys2Proof.Machine

/-- A bit set in a word stays set whatever is set besides it. -/
theorem and_or_or_ne_zero (p q b : BitVec 16) (i : Nat) (h : b.getLsbD i = true) : (p ||| b ||| q) &&& b ≠ 0 := by
  intro h0
  have := congrArg (BitVec.getLsbD · i) h0
  simp [h] at this

/-- A trigger given changes the capture channels as `State.triggers` says, with the trigger cycle of that
instant, and asks for copies at once only in a boundary whose capture work is taken. -/
theorem State.giveTrigger_triggers (s : State) (k : TriggerKind) :
    s.triggers (s.giveTrigger k) k s.triggerCycle (s.inst.work.isSome && s.inst.captured) := by
  have e : ∀ one, ((s.cap.channel one).state = .armed ∧ (s.cap.channel one).kind = k)
      ↔ (s.cap.channel one).awaits k = true := fun one => by simp [Channel.awaits]
  have b0 : ∀ p : BitVec 16, ¬ (p ||| 8#16) &&& 8#16 = 0#16 := fun p => by
    simpa using and_or_or_ne_zero p 0 8#16 3 (by decide)
  have b1 : ∀ p : BitVec 16, ¬ (p ||| 16#16) &&& 16#16 = 0#16 := fun p => by
    simpa using and_or_or_ne_zero p 0 16#16 4 (by decide)
  have b2 : ∀ p : BitVec 16, ¬ (p ||| 8#16 ||| 16#16) &&& 8#16 = 0#16 := fun p =>
    and_or_or_ne_zero p 16#16 8#16 3 (by decide)
  generalize hl : (s.inst.work.isSome && s.inst.captured) = late
  simp only [State.triggers, e]
  rcases h0 : s.cap.ch0.awaits k with _ | _ <;> rcases h1 : s.cap.ch1.awaits k with _ | _ <;>
  by_cases r0 : s.cap.ch0.write ≤ s.cap.ch0.last <;> by_cases r1 : s.cap.ch1.write ≤ s.cap.ch1.last <;>
  cases late <;>
  simp [State.giveTrigger, State.triggerOne, State.askCopy, State.endCapture, State.modCap, State.modPort,
    State.triggerCycle, State.raise, Capture.channel, Capture.modChannel, State.isPending, endEvent,
    Event.bit, h0, h1, r0, r1, hl, b0, b1, b2]

end Sys2Proof.Machine
end

