-- ==== Sys2Proof/WellFormed.lean ====
section
/-! DEFINITION. Which commands are well formed: the ranges the manual gives an operand that its type
does not. A command that is not well formed still runs (its rule decides what it does, or it names no
word of the part); the check says which commands the outside world can really produce. -/

namespace Sys2Proof

/-- The word exists: a held cycle's index is 0 to 3 and a slot 0 to 63 (section 2-1). -/
def TemplateWord.wf : TemplateWord → Bool
  | .held i _ k => decide (i < 4) && decide (k < 64)
  | .collecting _ k => decide (k < 64)
  | .value _ k => decide (k < 64)


/-- The operands of a command are in the ranges the manual gives them. -/
def Instr.wf : Instr → Bool
  | .sampleEvent _ ups order =>
    ups.all (fun u => u.word.wf) && decide order.Nodup
  | .cycleBoundary ups pups order =>
    ups.all (fun u => u.word.wf) && pups.all (fun u => decide (u.word < 29)) && decide order.Nodup
  | .lostArbitration k => decide (1 ≤ k) && decide (k ≤ 6)
  | .transmitBitError k => decide (k < 100)
  | .shareFrameReceived bits => decide (1 ≤ bits.length) && decide (bits.length ≤ 100)
  | .captureDataRead n => decide (2 ≤ n) && decide (n ≤ 32) && decide (n % 2 = 0)
  | .episodeRead n => decide (1 ≤ n) && decide (n ≤ 32)
  | .paramStageWrite _ d => decide (1 ≤ d.length) && decide (d.length ≤ 32)
  | .registerWriteOther _ control d => decide ((control.toNat % 32) + 1 ≤ d.length)
  | .frameError bytes =>
    decide (bytes.length < 2) || decide (bytes.length < 3 + (bytes.getD 1 0).toNat % 32)
  | .coldReset => true
  | .resetPinLow => true
  | .resetRelease _ _ => true
  | .ridden => true
  | .peerLoss _ => true
  | .isolation => true
  | .onsetBarred => true
  | .statusThrottle => true
  | .silentTimerExpiry => true
  | .coastLimitReached => true
  | .bypassOpenFail => true
  | .bypassCloseFail => true
  | .bypassUncommanded => true
  | .uncommandedHoldOffEnd => true
  | .startExpired => true
  | .releaseGapEnd => true
  | .blockCopyEnd => true
  | .lineIdle => true
  | .frameBegin => true
  | .frameComplete => true
  | .lineStuck => true
  | .stuckEnd => true
  | .episodeSelectWrite _ => true
  | .eventsWrite _ => true
  | .eventEnableWrite _ => true
  | .firstFaultClear _ => true
  | .paramCommit _ => true
  | .arm _ _ _ _ _ => true
  | .disarm _ => true
  | .soft _ => true
  | .captureSelectWrite _ _ _ => true
  | .withdraw => true
  | .returnToService => true
  | .warmReset => true

end Sys2Proof
end

