-- ==== Sys2Proof/Tests/Slice0.lean ====
section
/-! SUPPORT. Tests on fixed values, each taken from the manual's text or worked out from it by hand, the
smoke tests of the well-formedness check, and a witness for the hypotheses of each statement. -/

namespace Sys2Proof.Tests

open Sys2Proof.Machine

set_option Elab.async false

/-- The state a command leaves; the state before it if the command stops. -/
def after (c : Instr) (s : State) : State :=
  match exec c s with
  | .next t => t
  | .fault _ => s
  | .refused _ => s

/-! ## Well-formedness: an ill-formed command for each check, refused, and a formed one, accepted -/

def silence : SenseInput := ⟨.all 0, .all 0, 3200, false⟩

theorem test_wf_held_index : (Instr.sampleEvent silence [⟨.held 4 .a 0, false⟩] []).wf = false := by decide
theorem test_wf_held_slot : (Instr.sampleEvent silence [⟨.held 3 .a 64, false⟩] []).wf = false := by decide
theorem test_wf_collecting_slot : (Instr.sampleEvent silence [⟨.collecting .b 64, false⟩] []).wf = false := by
  decide
theorem test_wf_value_slot : (Instr.cycleBoundary [⟨.value .c 64, true⟩] [] []).wf = false := by decide
theorem test_wf_param_word : (Instr.cycleBoundary [] [⟨29, false⟩] []).wf = false := by decide
theorem test_wf_sample_order : (Instr.sampleEvent silence [] [.chain, .chain]).wf = false := by decide
theorem test_wf_boundary_order : (Instr.cycleBoundary [] [] [.share, .line, .share]).wf = false := by decide
theorem test_wf_lost_arbitration : (Instr.lostArbitration 0).wf = false ∧ (Instr.lostArbitration 7).wf = false := by
  decide
theorem test_wf_bit_error : (Instr.transmitBitError 100).wf = false := by decide
theorem test_wf_frame_empty : (Instr.shareFrameReceived []).wf = false := by decide
theorem test_wf_frame_bits : (Instr.shareFrameReceived [true, false]).wf = true := by decide
theorem test_wf_frame_long : (Instr.shareFrameReceived (List.replicate 101 false)).wf = false := by decide
theorem test_wf_capture_read : (Instr.captureDataRead 3).wf = false ∧ (Instr.captureDataRead 34).wf = false ∧
    (Instr.captureDataRead 0).wf = false := by decide
theorem test_wf_episode_read : (Instr.episodeRead 0).wf = false ∧ (Instr.episodeRead 33).wf = false := by decide
theorem test_wf_stage : (Instr.paramStageWrite true []).wf = false ∧
    (Instr.paramStageWrite false (List.replicate 33 0)).wf = false := by decide
theorem test_wf_register_write : (Instr.registerWriteOther 1 1 [0]).wf = false := by decide
theorem test_wf_frame_error : (Instr.frameError [2, 1, 0, 0]).wf = false := by decide
theorem test_wf_accepts : (Instr.sampleEvent silence [⟨.held 3 .a 63, true⟩] [.energy, .chain]).wf = true ∧
    (Instr.frameError [2, 1, 0]).wf = true ∧ (Instr.captureDataRead 32).wf = true ∧
    (Instr.cycleBoundary [] [⟨28, true⟩] [.fault]).wf = true ∧
    (Instr.shareFrameReceived (List.replicate 100 false)).wf = true := by decide

/-! ## The worked examples of the manual -/

/-- Section 1-4: the crossing of the example is at 104. -/
theorem test_crossing_time : ({ Timebase.reset with
    armed := true, prevCode := -1000, prevTime := 0, time := 312, x := ⟨2000, 0, 0⟩ } : Timebase).crossing
      = some 104 := by decide

/-- Table 2-3.1: the averaging examples with a tie. -/
theorem test_mean_ties : (([-3, -2, -2, -3] : List Int).sum + 2) / 4 = -2 ∧
    (([-3, -3, -3, -2] : List Int).sum + 2) / 4 = -3 := by decide
theorem test_mean_code : meanCode ([-3, -2, -2, -3].map fun c => ⟨.all [c], []⟩) .b 0 = -2 := by decide

/-- Table 5-7.1: the headroom limits. -/
theorem test_headroom : headroomLimit 3600 5120 = 4500 ∧ headroomLimit 3200 5120 = 4000 ∧
    headroomLimit 2800 5120 = 3500 := by decide

/-- Table 5-7.2: station 1's command and duty at the crest, and the negative crest of section 5-7.1. -/
theorem test_chain_envelope :
    chain ⟨8192, 4096, 4000⟩ 12000 84 ⟨true, 128⟩ 256 6554 0 16384
      = ⟨256, 537, ⟨false, false, false, false⟩⟩ ∧ dutyOf 4000 537 = 137 ∧
    (chain ⟨8192, 4096, 4000⟩ 12000 84 ⟨true, 128⟩ 256 (-6554) 0 (-16384)).command = -537 := by decide

/-- Table 5-7.3: station 0 in band FULL, with the cabinet clamp, at both crests. -/
theorem test_chain_full :
    chain ⟨8192, 4096, 4500⟩ 12000 120 ⟨true, 256⟩ 256 6554 0 16384
      = ⟨256, 3840, ⟨true, false, false, false⟩⟩ ∧
    (chain ⟨8192, 4096, 4500⟩ 12000 120 ⟨true, 256⟩ 256 (-6554) 0 (-16384)).command = -3840 := by decide

/-- Section 5-7.3: a phase gated off gives 0 and sets no flag. -/
theorem test_chain_gate_off : chain ⟨8192, 4096, 4500⟩ 12000 120 ⟨false, 128⟩ 256 9830 0 16384
    = ⟨256, 0, ⟨false, false, false, false⟩⟩ := by decide

/-- R73 with I_lim = 12000: the factor falls above 12000, holds from 10501, and climbs at 10500. -/
theorem test_fold_back : foldBack 12000 12001 256 = 224 ∧ foldBack 12000 (-12000) 200 = 200 ∧
    foldBack 12000 10501 200 = 200 ∧ foldBack 12000 10500 200 = 208 ∧ foldBack 12000 20000 80 = 64 := by
  decide

/-- Table 6-2.1 and section 6-3: credits, the cabinet fraction, and B_eff of Table 6-6.1. -/
theorem test_credit : creditOf 3600 2000 = 35000 ∧ creditOf 3200 2000 = 24375 ∧ creditOf 2800 2000 = 15000 ∧
    creditOf 2000 2000 = 0 := by decide
theorem test_fraction : fractionOf 74375 3 35000 = 181 ∧ bandOf 192 32 181 = .envelope ∧
    bandOf 192 32 192 = .full ∧ bandOf 192 32 31 = .depleted := by decide

/-- Section 6-7: the example envelope at 3, 10, 24, 25 and 50. -/
theorem test_envelope : [3, 10, 24, 25, 50, 65535].map
    (envelopeFraction [(10, 128), (25, 179), (50, 205), (65535, 230)]) = [128, 179, 179, 205, 230, 230] := by
  decide

/-- Table 7-5.2: the cumulative shares of the example cabinet. -/
theorem test_shares : cumulativeShare 0 35000 39375 = 120 ∧ cumulativeShare 35000 24375 15000 = 84 ∧
    cumulativeShare 59375 15000 0 = 52 := by decide

/-- Section 8-3: the DEPART frame of station 1 carries CRC 0xC6 and is 46 bit times long. -/
theorem test_crc : crc8 [0x44, 0x02, 0x5A, 0x34] = 0xC6#8 := by decide +kernel
theorem test_frame_received :
    receiveFrame (Frame.bits ⟨.depart, 1, [0x5A, 0x34]⟩) = some ⟨.depart, 1, [0x5A, 0x34]⟩ ∧
    (Frame.bits ⟨.depart, 1, [0x5A, 0x34]⟩).length = 46 := by decide +kernel

/-- R128: that frame with its CRC byte wrong fails at the last bit of the CRC byte, bit 37 (the 38th), and
at no bit before it. -/
theorem test_failing_bit :
    (List.range 38).filter (failsAt ((Frame.bits ⟨.depart, 1, [0x5A, 0x34]⟩).set 37 true)) = [37] := by
  decide +kernel

/-- R142: kinds 0 and 7 name no trigger. -/
theorem test_trigger_kinds : TriggerKind.ofCode 0 = none ∧ TriggerKind.ofCode 7 = none ∧
    TriggerKind.ofCode 4 = some .lockLoss := by decide

/-- Table 0-8.1 as a block (section 12-7). -/
def exampleBlock : List Byte :=
  [0x00, 0x06, 0x66, 0x03, 0x33, 3, 3, 20, 0x00, 0x96, 0x20, 0x00, 0x10, 0x00, 0x14, 0x00, 0x2E, 0xE0,
   0x3A, 0x98, 0x07, 0xD0, 0x0E, 0x10, 0x0E, 0xD8, 192, 32, 16, 0x0B, 0xB8, 25, 5, 4]
  ++ [0x00, 0x0A, 0x00, 0x80, 0x00, 0x19, 0x00, 0xB3, 0x00, 0x32, 0x00, 0xCD, 0xFF, 0xFF, 0x00, 0xE6,
      0, 0, 0, 0, 0, 0, 0, 0]

/-- Section 12-7: every field of the block is valid, and with P_s = 9 the field at offset 32 fails. -/
theorem test_block_valid : exampleBlock.length = 58 ∧ failedField exampleBlock = none ∧
    failedField (exampleBlock.set 32 9) = some 32 := by decide +kernel

/-! ## States for the tests of one command -/

/-- Station 1 of the example cabinet in START, its block staged. -/
def staged : State := { State.reset with
  su := .atRelease 1 2
  port := { Port.reset with station := 1, countStrap := 2, staging := exampleBlock ++ List.replicate 6 0 } }

/-- A peer of the example cabinet, as its last STATUS frame reported it. -/
def peer (credit : Nat) : PeerEntry :=
  { PeerEntry.absent with
    state := .present, fpMatch := true, reported := .standby, seq := some 9, credit := credit
    refreshed := ⟨true, false, false, false⟩ }

/-- Four held cycles of a supply at 0, and template values of 0. -/
def flatTemplate : Template := { Template.reset with
  ring := List.replicate 4 .zero, lt := .all 0 }

/-- Station 1 of the example cabinet in STANDBY. -/
def standby : State := { State.reset with
  tb := { Timebase.reset with
    vdc := 3200, counter := 1000, cycle := 999, slot := 63, lock := .locked, lockHeld := true
    nextSlot0 := 20000, windowCentre := 20000 }
  tmpl := flatTemplate
  det := { Detector.reset with qOn := 21464352, qOff := 5366088, qJoin := 5366088 }
  ctl := { Controller.reset with service := .standby, charge := true, watch := true, samples := 64 }
  dp := { Datapath.reset with share := 84, tripLevel := 15000 }
  en := { Energy.reset with credit := 24375, full := 35000, chgEn := true, phi := 181, band := .envelope }
  su := { ShareUnit.atRelease 1 2 with
    peers := ((peersAtRelease 1).set 0 (peer 35000)).set 2 (peer 15000)
    members := [0, 2], selfMember := true, count := 3, share := 84 }
  line := { Line.reset with tracking := .idle }
  fm := { FaultMonitor.reset with scrub := true }
  port := { Port.reset with
    station := 1, countStrap := 2, params := Params.ofBlock exampleBlock, store := exampleBlock
    fingerprint := 0x5A, committed := true, window := false } }

/-- The record of station 1's open episode. -/
def openRecord : Record where
  number := 55
  outcome := .opened
  hasElapsed := false
  hasFault := false
  hasClamps := false
  stamp := 1000
  slot := 4
  peer := false
  phases := ⟨true, false, false⟩
  depth := 1
  minMembers := 3
  duration := 2
  full := 0
  envelope := 2
  energy := 0
  peakShare := 84
  retained := .all 255
  disagreements := 0
  elapsed := 0
  fault := none
  clamps := ⟨0, 0, 0⟩

/-- Station 1 in INJECTING with its bypass in a given state. -/
def injecting (b : BypassState) : State := { standby with
  tb := { standby.tb with counter := 1003, feedbackOpen := true }
  tmpl := { flatTemplate with injected := true }
  ctl := { standby.ctl with
    service := .injecting, bypass := b, gates := true
    commandOpen := decide (b = .opening) || decide (b = .opened)
    timer := if b = .opening then 2 else if b = .closing then 64 else 0
    cause := if b = .closing then some .energy else none }
  en := { standby.en with depth := 1, elapsed := 3, plan := .all ⟨true, 128⟩ }
  dp := { standby.dp with plan := .all ⟨true, 128⟩ }
  ep := { Episodes.reset with
    records := [openRecord], next := 56
    current := some ⟨25000, if b = .closing then some .energy else none, ⟨0, 0, 0⟩⟩ } }

/-- The same state with the boundary due. -/
def due (s : State) : State := { s with tb := { s.tb with nextSlot := 64, slot := 63 } }

/-- The same state just after a boundary. -/
def atEdge (s : State) : State := { s with inst := { s.inst with boundary := some 999 } }

/-- A sample of the example sag at the crest, all phases at 6554 below a template of 0. -/
def sag : SenseInput := ⟨.all 6554, .all 100, 3200, false⟩

/-! ## One command each, from the manual's text -/

theorem test_cold_reset : (after .coldReset standby).held = .cold ∧
    (after .coldReset standby).ctl.service = .start := by decide
theorem test_reset_pin : (after .resetPinLow standby).tb.counter = 1000 ∧
    (after .resetPinLow standby).port.committed = false := by decide
theorem test_warm_release :
    (after (.resetRelease 1 2) (after .warmReset standby)).tb.counter = 1001 ∧
    (after .warmReset standby).port.out = [0x00, 0x01, 0x00] := by decide +kernel
theorem test_release_solo : (after (.resetRelease 5 0) (after .coldReset standby)).su.share = 256 ∧
    ((after (.resetRelease 5 0) (after .coldReset standby)).su.entry 5).state = .self := by decide +kernel
theorem test_sample_onset : (after (.sampleEvent sag [] []) standby).ctl.service = .injecting ∧
    (after (.sampleEvent sag [] []) standby).ctl.timer = 48 := by decide +kernel
theorem test_sample_trip : (after (.sampleEvent { sag with i := ⟨0, -15000, 0⟩ } [] []) standby).ctl.service
    = .lockout := by decide +kernel
theorem test_boundary_share : (after (.cycleBoundary [] [] []) (due (injecting .opened))).su.share = 84 ∧
    (after (.cycleBoundary [] [] []) (due (injecting .opened))).en.phi = 181 := by decide +kernel
theorem test_boundary_plan : (after (.cycleBoundary [] [] []) (due (injecting .opened))).en.elapsed = 4 ∧
    ((after (.cycleBoundary [] [] []) (due (injecting .opened))).en.plan.get .a).f = 128 := by decide +kernel
theorem test_ridden : (after .ridden (atEdge { injecting .opened with
    det := { standby.det with restoreCount := 3 } })).ctl.cause = some .ridden := by decide +kernel
theorem test_peer_loss : ((after (.peerLoss 2) (atEdge { standby with
    su := { standby.su with peers := standby.su.peers.set 2 { peer 15000 with age := 25 } } })).su.entry 2).state
      = .lost := by decide +kernel
theorem test_isolation : (after .isolation (atEdge { standby with
    su := { standby.su with silence := 25 } })).su.share = 85 := by decide +kernel
theorem test_onset_barred : (after .onsetBarred (atEdge { injecting .opened with
    su := { standby.su with ownAge := 25, silence := 1 } })).ctl.cause = some .line := by decide +kernel
theorem test_status_throttle : (after .statusThrottle (atEdge standby)).line.queue.status = some ⟨0, true⟩ := by
  decide +kernel
theorem test_silent_timer : (after .silentTimerExpiry { standby with
    line := { standby.line with state := .silent, tec := 130 } }).line.tec = 0 := by decide +kernel
theorem test_coast_limit : (after .coastLimitReached (atEdge { standby with
    tb := { standby.tb with lock := .coast, coast := 150 } })).ctl.service = .syncing := by decide +kernel
theorem test_open_fail : (after .bypassOpenFail { injecting .opening with
    tb := { standby.tb with feedbackOpen := false }
    ctl := { (injecting .opening).ctl with timer := 0 } }).ctl.service = .lockout := by decide +kernel
theorem test_close_fail : (after .bypassCloseFail { injecting .closing with
    ctl := { (injecting .closing).ctl with timer := 0 } }).ctl.closeFailed = true := by decide +kernel
theorem test_uncommanded : (after .bypassUncommanded { standby with
    ctl := { standby.ctl with uncommanded := 4 } }).ctl.gates = true := by decide +kernel
theorem test_hold_off : (after .uncommandedHoldOffEnd { standby with
    ctl := { standby.ctl with watch := false } }).ctl.watch = true ∧
    (after .uncommandedHoldOffEnd { standby with
      ctl := { standby.ctl with watch := false, samples := 63 } }).ctl.watch = false := by decide +kernel
theorem test_start_expired : (after .startExpired staged).ctl.service = .idleOut := by decide +kernel
theorem test_release_gap : (after (.eventsWrite 1) staged).notifyLow = false ∧
    (after (.eventsWrite 1) staged).port.gap = true ∧
    (after .releaseGapEnd (after (.eventsWrite 1) staged)).port.gap = false := by decide +kernel
theorem test_block_copy : (after .blockCopyEnd { standby with cap := { Capture.reset with
    completed := (-2) :: 3 :: List.replicate 382 0, copies := [false]
    ch0 := { Channel.reset with state := .capturing, count := 2, first := 1, last := 4, write := 1 } } }).cap.memory
      = [(768, 0xFF#8), (769, 0xFE#8), (771, 3#8)] := by decide +kernel
theorem test_frame_taken : ((after (.shareFrameReceived (Frame.bits ⟨.depart, 2, [0x5A, 0xA4]⟩)) standby).su.entry
    2).state = .departed := by decide +kernel
theorem test_frame_duplicate : (after (.shareFrameReceived (Frame.bits ⟨.depart, 1, [0x5A, 0xA4]⟩))
    standby).ctl.service = .lockout := by decide +kernel
/-- R116: a frame met before the line is idle is not taken, and the 8 recessive bits that end it make the
line idle; LINE_IDLE leaves a frame being followed. -/
theorem test_line_idle : (after .lineIdle { standby with
      line := { standby.line with tracking := .lost } }).line.tracking = .idle ∧
    (after .lineIdle { standby with line := { standby.line with
      tracking := .receiving [false] } }).line.tracking = .receiving [false] := by decide +kernel
theorem test_frame_not_followed : ((after (.shareFrameReceived (Frame.bits ⟨.depart, 2, [0x5A, 0xA4]⟩))
      { standby with line := { standby.line with tracking := .lost } }).su.entry 2).state = .present ∧
    (after (.shareFrameReceived (Frame.bits ⟨.depart, 2, [0x5A, 0xA4]⟩))
      { standby with line := { standby.line with tracking := .lost } }).line.tracking = .idle := by
  decide +kernel
/-- R116: 7 recessive bits make the line idle for a controller that follows no frame, and the dominant bit
after them is the start bit of a frame, whatever they were part of; 6 do not. -/
theorem test_idle_among_bits : ∀ n, n = 6 ∨ n = 7 →
    ((after (.shareFrameReceived (false :: List.replicate n true ++ Frame.bits ⟨.depart, 2, [0x5A, 0xA4]⟩))
      { standby with line := { standby.line with tracking := .lost } }).su.entry 2).state
      = if n = 7 then .departed else .present := by
  rintro n (rfl | rfl) <;> decide +kernel
theorem test_frame_begin : (after .frameBegin { standby with
    ctl := { standby.ctl with service := .withdrawn }
    line := { standby.line with seq := 3, queue := { TxQueue.empty with depart := some ⟨0, false⟩ } } }).line.tracking
      = .sending ⟨.depart, 1, [0x5A, 0x34]⟩ true := by decide +kernel

/-- A station transmitting its DEPART frame. -/
def sending : State := { standby with line := { standby.line with
  tracking := .sending ⟨.depart, 1, [0x5A, 0x34]⟩ true
  queue := { TxQueue.empty with depart := some ⟨3, false⟩ } } }

theorem test_lost_arbitration :
    (after (.lostArbitration 2) sending).line.tracking = .receiving [false, false, false] ∧
    (after (.lostArbitration 1) sending).line.tracking = sending.line.tracking := by decide +kernel
/-- R115: the driver enable over an own frame, and no longer once arbitration is lost. -/
theorem test_driver_enable : sending.driverEnable = true ∧
    (after (.lostArbitration 2) sending).driverEnable = false := by decide +kernel
theorem test_bit_error : (after (.transmitBitError 0) sending).line.tec = 8 ∧
    (after (.transmitBitError 0) sending).line.queue.depart = none := by decide +kernel
theorem test_frame_complete : (after .frameComplete sending).line.seq = 1 ∧
    (after .frameComplete sending).line.queue.depart = none := by decide +kernel
theorem test_line_stuck : (after .lineStuck sending).line.state = .stuck ∧
    (after .stuckEnd (after .lineStuck sending)).line.state = .active := by decide +kernel
theorem test_capture_read : (after (.captureDataRead 4) { standby with
    cap := { Capture.reset with memory := [(0, 7#8), (30719, 9#8)], block := 39, offset := 383 } }).port.out
      = [0x00, 0x01, 0, 9, 7, 0] := by decide +kernel
theorem test_episode_read : (after (.episodeRead 3) (injecting .opened)).port.out
    = [0x00, 0x01, 0, 55, 0] := by decide +kernel
theorem test_episode_select : (after (.episodeRead 1) (after (.episodeSelectWrite 7) standby)).port.result
    = .notHeld := by decide +kernel
theorem test_event_enable : (after (.eventEnableWrite 0x2406) staged).port.enable = 0x2406 := by decide +kernel
theorem test_first_fault_clear : (after (.firstFaultClear 0xAA) (after .lineStuck standby)).fm.first.kind = none := by
  decide +kernel
theorem test_stage : (after (.paramStageWrite true [1, 2]) staged).port.staging.getD 33 0 = 2 ∧
    (after (.paramStageWrite true [1]) standby).port.result = .refusedState := by decide +kernel
/-- Section 12-7, steps 3 and 4; the CRC of the block as R118 and R161 give it, computed by hand, is 0xD1
(log 31). -/
theorem test_commit : (after (.paramCommit 0xD0) staged).port.result = .crcMismatch ∧
    (after (.paramCommit 0xD1) staged).ctl.service = .syncing := by decide +kernel
theorem test_arm : (after (.arm false 1 6 0 7) standby).cap.ch0.state = .armed ∧
    (after (.arm false 0 6 0 7) standby).port.result = .badArgument := by decide +kernel
theorem test_disarm : (after (.disarm false) (after (.arm false 1 6 0 7) standby)).cap.ch0.status = .aborted := by
  decide +kernel
theorem test_soft : (after (.soft true) (after (.arm true 6 6 0 7) standby)).cap.ch1.cycle = 1000 := by
  decide +kernel
theorem test_capture_select : (after (.captureSelectWrite 39 0 383) standby).cap.offset = 383 ∧
    (after (.captureSelectWrite 40 0 0) standby).port.result = .badArgument := by decide +kernel
theorem test_withdraw : (after .withdraw standby).ctl.service = .withdrawn ∧
    (after .withdraw (injecting .opened)).port.result = .busy := by decide +kernel
theorem test_return : (after .returnToService (after .withdraw standby)).ctl.service = .syncing ∧
    (after .returnToService (after .withdraw standby)).line.queue.depart = none := by decide +kernel
theorem test_register_write : (after (.registerWriteOther 0x05 0x00 [1]) standby).port.result = .noItem ∧
    (after (.registerWriteOther 0x10 0x80 [1, 2, 3]) standby).port.out = [0x00, 0x01, 0xFF, 0x00, 0x00] := by
  decide +kernel
theorem test_frame_error : (after (.frameError [0x30, 0x00]) standby).port.result = .frameError ∧
    (after (.frameError [0x30, 0x00]) standby).port.pending = 0x1001 := by decide +kernel

/-! ## Witnesses: for each statement with hypotheses, a state and operands that meet them together -/

theorem witness_stepRunsTheFrontCommand :
    ({ standby with pending := [.lineIdle, .ridden] } : State).pending = .lineIdle :: [.ridden] ∧
    standby.pending = [] := ⟨rfl, rfl⟩

theorem witness_warmResetThenRelease : standby.held = .released ∧ standby.cap.copies = [] ∧
    ∃ s : State, s.held = .released ∧ s.cap.copies = true :: [] ∧ s.cap.completed.length = 384 ∧
      s.cap.memory.wf = true :=
  ⟨rfl, rfl, { standby with cap := { Capture.reset with copies := [true] } }, rfl, rfl, by decide +kernel,
   by decide +kernel⟩

theorem witness_nothingIsTakenWhileAResetIsHeld : (after .resetPinLow standby).held ≠ .released ∧
    Instr.lineIdle ≠ .coldReset ∧ ∀ station count, Instr.lineIdle ≠ .resetRelease station count :=
  ⟨by decide +kernel, by decide, fun _ _ h => nomatch h⟩

/-- Each clause: the first and the last slot, a committed station and one in START, a station whose chain R65
does not allow, and one INJECTING. -/
theorem witness_sampleEventHoldsTheCodes : standby.awaitsSample ∧
    ({ standby with tb := { standby.tb with nextSlot := 63 } } : State).awaitsSample ∧
    standby.cap.filling.length = 384 ∧ standby.ctl.service ≠ .injecting ∧ standby.port.committed = true ∧
    (after (.sampleEvent silence [] []) standby).ctl.service = standby.ctl.service ∧
    staged.awaitsSample ∧ staged.port.committed = false ∧ (injecting .opened).awaitsSample ∧
    (injecting .opened).ctl.service = .injecting :=
  ⟨⟨rfl, by decide⟩, ⟨rfl, by decide⟩, by decide +kernel, by decide, rfl, by decide +kernel, ⟨rfl, by decide⟩,
   rfl, ⟨rfl, by decide⟩, rfl⟩

theorem standby_sound : standby.tmpl.sound :=
  (by decide +kernel : standby.tmpl.values.errors = [] ∧ ∀ w ∈ standby.tmpl.ring, w.errors = [])

/-- Each clause: the bypass OPEN, and OPENING with the feedback high and with the timer at 2. -/
theorem witness_chainCommandsTheSample : ∀ b, b = .opened ∨ b = .opening →
    (injecting b).awaitsSample ∧ (injecting b).valid = true ∧ (injecting b).tmpl.sound ∧
      (injecting b).ctl.service = .injecting ∧ (injecting b).ctl.open_ ∧ (injecting b).barred = false ∧
      (∀ p, ¬ (injecting b).overcurrentNext sag p) ∧
      (b = .opening → ({ sag with feedbackHigh := true } : SenseInput).feedbackHigh = true ∧
        2 ≤ (injecting b).ctl.timer) ∧ (injecting b).cap.filling.length = 384 := by
  rintro b (rfl | rfl)
  · exact ⟨⟨rfl, by decide⟩, by decide +kernel, standby_sound, rfl, .inr rfl, by decide +kernel,
      fun p => by cases p <;> exact (by decide : ¬ (15000 ≤ 100)), (fun h => by cases h), by decide +kernel⟩
  · exact ⟨⟨rfl, by decide⟩, by decide +kernel, standby_sound, rfl, .inl rfl, by decide +kernel,
      fun p => by cases p <;> exact (by decide : ¬ (15000 ≤ 100)), fun _ => ⟨rfl, by decide⟩,
      by decide +kernel⟩

/-- Where the chain does not run: outside INJECTING, with the bypass CLOSING, with the template not in force,
and onset-barred at an own transmit age of L. -/
theorem witness_chainDoesNotRun : (standby.awaitsSample ∧ standby.ctl.service ≠ .injecting) ∧
    ((injecting .closing).awaitsSample ∧ ¬ (injecting .closing).ctl.open_) ∧
    (∃ s : State, s.awaitsSample ∧ s.ctl.service = .injecting ∧ s.ctl.open_ ∧ s.valid = false) ∧
    ∃ s : State, s.awaitsSample ∧ s.ctl.service = .injecting ∧ s.ctl.open_ ∧ s.valid = true ∧
      s.su.ownAge = s.port.params.l ∧ s.barred = true :=
  ⟨⟨⟨rfl, by decide⟩, by decide⟩, ⟨⟨rfl, by decide⟩, by rintro (h | h) <;> cases h⟩,
   ⟨{ injecting .opened with tmpl := Template.reset }, ⟨rfl, by decide⟩, rfl, .inr rfl, by decide +kernel⟩,
   { injecting .opened with su := { standby.su with ownAge := 25 } }, ⟨rfl, by decide⟩, rfl, .inr rfl,
   by decide +kernel, by decide +kernel, by decide +kernel⟩

/-- A station about to meet the crossing of the manual's example (R6), previous code −1000 at 0 and a code of
2000 at 312, with a lock state, a last crossing time, a window centre and a confirm count. -/
def atCrossing (l : LockState) (last : Option Stamp) (centre : Stamp) (confirm : Nat) : State := { standby with
  tb := { standby.tb with
    lock := l, lastCrossing := last, windowCentre := centre, confirm := confirm, armed := true
    prevCode := -1000, nextSlot := 1, nextSlot0 := 20000 } }

theorem atCrossing_time (l : LockState) (last : Option Stamp) (centre : Stamp) (confirm : Nat) :
    (atCrossing l last centre confirm).timeNext = 312 :=
  (by decide +kernel : (atCrossing .search none 0 0).timeNext = 312)

theorem atCrossing_crosses (l : LockState) (last : Option Stamp) (centre : Stamp) (confirm : Nat) :
    (atCrossing l last centre confirm).crossesAt ⟨⟨2000, 0, 0⟩, .all 0, 3200, false⟩ 104 := by
  refine ⟨rfl, by decide, ?_⟩
  rw [atCrossing_time]
  exact (by decide : (104 : Stamp) = 0 + BitVec.ofInt 32 (((312 - 0 : Stamp).toNat : Int) * (-(-1000))
    / (2000 - (-1000))))

/-- Each clause: the crossing at 104, or none with the code below 0; an interval at the low end of the good
range and one below it; the crossing at the edge of the window and 1 µs outside; and the sample at the
window's end and 1 µs past it. -/
theorem witness_lockFollowsTheCrossings : (∀ l last centre confirm,
      (atCrossing l last centre confirm).awaitsSample ∧
      (atCrossing l last centre confirm).port.committed = true ∧
      (atCrossing l last centre confirm).crossesAt ⟨⟨2000, 0, 0⟩, .all 0, 3200, false⟩ 104 ∧
      (atCrossing l last centre confirm).noCrossing ⟨⟨-1, 0, 0⟩, .all 0, 3200, false⟩ ∧
      (atCrossing l last centre confirm).timeNext = 312) ∧
    standby.tb.period = 20000 ∧ standby.port.params.tol = 20 ∧ standby.port.params.frequency = 0 ∧
    standby.port.params.c = 3 ∧
    20000 - 20000 * 20 / 1000 = ((104 : Stamp) - (104 - 19600)).toNat ∧
    ((104 : Stamp) - (104 - 19599)).toNat < 20000 - 20000 * 20 / 1000 ∧
    ((104 : Stamp) - 504).toInt = -400 ∧ ((104 : Stamp) - 505).toInt = -401 ∧
    ((312 : Stamp) - (312 - 400)).toInt = 400 ∧ ((312 : Stamp) - (312 - 401)).toInt = 401 ∧
    staged.awaitsSample ∧ staged.port.committed = false := by
  refine ⟨fun _ _ _ _ => ⟨⟨rfl, by show (1 < 64); decide⟩, rfl, atCrossing_crosses _ _ _ _, .inr (by decide),
    atCrossing_time _ _ _ _⟩, by decide, by decide +kernel, by decide +kernel, by decide +kernel, ?_⟩
  refine ⟨by decide, by decide, by decide, by decide, by decide, by decide, ⟨rfl, by decide⟩, rfl⟩

/-- Each clause: slot 0 and a later slot of a cycle quiet so far, with every Q below Q_off and with one at
Q_off or more; and the template not in force. -/
theorem witness_metricTakesTheSample : (standby.awaitsSample ∧ standby.valid = true ∧ standby.tmpl.sound) ∧
    standby.det.qOff ≤ standby.det.qOn ∧ standby.tb.nextSlot = 0 ∧
    (∀ p, standby.metricNext silence p < standby.det.qOff) ∧
    (∃ p, standby.det.qOff ≤ standby.metricNext sag p) ∧
    (∃ s : State, s.awaitsSample ∧ s.valid = true ∧ s.tmpl.sound ∧ s.tb.nextSlot = 63 ∧ s.det.quiet = true ∧
      ∀ p, s.metricNext silence p < s.det.qOff) ∧
    ∃ s : State, s.awaitsSample ∧ s.valid = false :=
  ⟨⟨⟨rfl, by decide⟩, by decide +kernel, standby_sound⟩, by decide, rfl,
   fun p => by cases p <;> decide +kernel, ⟨.a, by decide +kernel⟩,
   ⟨{ standby with
        tb := { standby.tb with nextSlot := 63 }
        det := { standby.det with quiet := true } }, ⟨rfl, by decide⟩, by decide +kernel, standby_sound, rfl,
    rfl, fun p => by cases p <;> decide +kernel⟩,
   { standby with tmpl := Template.reset }, ⟨rfl, by decide⟩, by decide +kernel⟩

/-- Both channels armed for a trigger kind, channel 0 at the last block of its region and channel 1 at a write
block that lies in its region or beyond it. -/
def armedFor (k : TriggerKind) (write : Nat) (s : State) : State := { s with cap := { Capture.reset with
  ch0 := { Channel.reset with state := .armed, kind := k, count := 1, first := 3, last := 3, write := 3 }
  ch1 := { Channel.reset with state := .armed, kind := k, count := 1, first := 5, last := 5, write := write } } }

/-- A link code one below Vover and at it, the first fault empty or filled, in a state that the sample leaves. -/
theorem witness_overvoltageIsReported : ∀ kind : Option FaultKind, ∃ s : State, s.awaitsSample ∧
    s.tmpl.sound ∧ s.fm.first.kind = kind ∧ s.ctl.service ≠ .standby ∧ s.ctl.bypass ≠ .closing ∧
    (∀ p, ¬ s.overcurrentNext { sag with vdc := 3800 } p) ∧ s.quietFeedback { sag with vdc := 3800 } ∧
    s.quietLink { sag with vdc := 3799 } ∧ ¬ s.quietLink { sag with vdc := 3800 } := fun kind =>
  ⟨{ standby with
      ctl := { standby.ctl with service := .withdrawn }
      fm := { standby.fm with first := ⟨kind, .standby, 5, 6, none, none, 255⟩ } },
   ⟨rfl, (by decide : 0 < 64)⟩, standby_sound, rfl, (fun h => nomatch h), (fun h => nomatch h),
   fun p => by cases p <;> exact (by decide : ¬ (15000 ≤ 100)), (.inr (.inl rfl) : _ ∨ _ ∨ _),
   .inr (.inr (by decide +kernel : max 0 (min 4095 3799) < (standby.port.params.vover : Int))),
   (by decide +kernel : ¬ (standby.port.committed = false ∨ standby.en.overvoltage = true ∨
     max 0 (min 4095 3800) < (standby.port.params.vover : Int)))⟩

/-- A ring that takes one record more, and a full one. -/
theorem witness_onsetMeetsTheRing : ∀ n : Nat, ∃ s : State, s.awaitsSample ∧ s.valid = true ∧ s.tmpl.sound ∧
    s.ctl.service = .standby ∧ s.barred = false ∧ s.ep.records.length = n := fun n =>
  ⟨{ standby with ep := { Episodes.reset with records := List.replicate n openRecord } },
   ⟨rfl, (by decide : 0 < 64)⟩, (by decide +kernel : standby.valid = true), standby_sound, rfl,
   (by decide +kernel : standby.barred = false), List.length_replicate⟩

theorem witness_ownOnsetOpensAnEpisode : standby.awaitsSample ∧ standby.valid = true ∧ standby.tmpl.sound ∧
    standby.ctl.service = .standby ∧ standby.ctl.bypass = .closed ∧ standby.tb.lock ≠ .search ∧
    standby.barred = false ∧ standby.det.disarm = false ∧
    (∃ p, standby.det.qOn ≤ standby.metricNext sag p) ∧ (∀ p, ¬ standby.overcurrentNext sag p) ∧
    (standby.ctl.watch = false ∨ sag.feedbackHigh = false ∨ standby.ctl.uncommanded < 3) ∧
    standby.en.band ≠ .depleted ∧
    ∃ s : State, s = { standby with en := { standby.en with band := .depleted } } ∧ s.awaitsSample ∧
      s.valid = true ∧ s.tmpl.sound ∧ s.barred = false ∧ (∃ p, s.det.qOn ≤ s.metricNext sag p) ∧
      (∀ p, ¬ s.overcurrentNext sag p) ∧ s.en.band = .depleted :=
  ⟨⟨rfl, by decide⟩, by decide +kernel, standby_sound, rfl, rfl, by decide, by decide +kernel, rfl,
   ⟨.a, by decide +kernel⟩, fun p => by cases p <;> exact (by decide +kernel : ¬ (15000 ≤ 100)), .inr (.inl rfl),
   by decide, _, rfl, ⟨rfl, by decide⟩, by decide +kernel, standby_sound, by decide +kernel,
   ⟨.a, by decide +kernel⟩, fun p => by cases p <;> exact (by decide +kernel : ¬ (15000 ≤ 100)), rfl⟩

theorem standby_inv : standby.ControllerInv := by
  constructor <;> (try unfold Controller.open_) <;> decide +kernel

theorem witness_overcurrentTripsTheStation : standby.awaitsSample ∧ standby.ControllerInv ∧
    standby.ctl.service ≠ .lockout ∧ standby.ctl.service ≠ .idleOut ∧ standby.dp.overcurrent = false ∧
    ∃ p, standby.overcurrentNext { sag with i := ⟨0, -15000, 0⟩ } p :=
  ⟨⟨rfl, by decide⟩, standby_inv, by decide, by decide, rfl, .b, (by decide : 15000 ≤ 15000)⟩

theorem injecting_current (b : BypassState) (p : Phase) : ¬ (injecting b).overcurrentNext sag p := by
  cases p <;> exact (by decide : ¬ (15000 ≤ 100))

theorem injecting_sound (b : BypassState) : (injecting b).tmpl.sound := standby_sound

/-- A station of the tests with its bypass at a timer, and with a count of uncommanded openings. -/
def feeling (s : State) (service : ServiceState) (timer uncommanded : Nat) : State := { s with
  ctl := { s.ctl with service := service, timer := timer, uncommanded := uncommanded } }

theorem feeling_current (service : ServiceState) (timer uncommanded : Nat) (b : BypassState) (p : Phase) :
    ¬ (feeling (injecting b) service timer uncommanded).overcurrentNext sag p := by
  cases p <;> exact (by decide : ¬ (15000 ≤ 100))

theorem quietLink_sag : max 0 (min 4095 sag.vdc) < (standby.port.params.vover : Int) := by decide +kernel

theorem empty_invalid : ({ standby with tmpl := Template.reset } : State).valid = false := by decide +kernel

/-- The first fault empty or filled, with channels armed for FAULT, and the current of one phase, of two and of
all at the trip level. -/
theorem witness_overcurrentIsReported : (∀ kind : Option FaultKind, ∃ s : State, s.awaitsSample ∧
      s.tmpl.sound ∧ s.fm.first.kind = kind ∧ s.dp.overcurrent = false ∧ s.ctl.service = .withdrawn ∧
      s.ctl.bypass = .closed ∧ s.quietLink sag ∧ s.quietFeedback sag ∧
      ∀ one, (s.cap.channel one).state = .armed ∧ (s.cap.channel one).kind = .fault) ∧
    (∀ i : Int, standby.overcurrentNext { sag with i := ⟨15000, i, -15000⟩ } .a ∧
      standby.overcurrentNext { sag with i := ⟨14999, -15000, i⟩ } .b ∧
      ¬ standby.overcurrentNext { sag with i := ⟨14999, -15000, i⟩ } .a ∧
      standby.overcurrentNext { sag with i := ⟨14999, -14999, 15000⟩ } .c ∧
      ¬ standby.overcurrentNext { sag with i := ⟨14999, -14999, 15000⟩ } .a ∧
      ¬ standby.overcurrentNext { sag with i := ⟨14999, -14999, 15000⟩ } .b) :=
  ⟨fun kind => ⟨armedFor .fault 5 { standby with
      ctl := { standby.ctl with service := .withdrawn }
      fm := { standby.fm with first := ⟨kind, .standby, 5, 6, none, none, 255⟩ } },
    ⟨rfl, (by decide : 0 < 64)⟩, standby_sound, rfl, rfl, rfl, rfl, .inr (.inr quietLink_sag),
    (.inr (.inl rfl) : _ ∨ _ ∨ _), fun one => by cases one <;> exact ⟨rfl, rfl⟩⟩,
   fun _ => ⟨(by decide : 15000 ≤ 15000), (by decide : 15000 ≤ 15000), (by decide : ¬ (15000 ≤ 14999)),
    (by decide : 15000 ≤ 15000), (by decide : ¬ (15000 ≤ 14999)), (by decide : ¬ (15000 ≤ 14999))⟩⟩

/-- Each clause. OPENING: the feedback OPEN, CLOSED with the timer at 2, and CLOSED with the timer at 1.
CLOSING, in INJECTING and in LOCKOUT: every timer and either feedback. CLOSED, in STANDBY with the template
not in force, in IDLE_OUT and in LOCKOUT: every count and either feedback. -/
theorem witness_openingIsBounded :
    ((injecting .opening).awaitsSample ∧ (injecting .opening).tmpl.sound ∧
      (injecting .opening).ctl.service = .injecting ∧ (injecting .opening).ctl.bypass = .opening ∧
      (∀ p, ¬ (injecting .opening).overcurrentNext sag p)) ∧
    ({ sag with feedbackHigh := true } : SenseInput).feedbackHigh = true ∧
    (sag.feedbackHigh = false ∧ 2 ≤ (injecting .opening).ctl.timer) ∧
    ({ (injecting .opening).ctl with timer := 1 } : Controller).timer ≤ 1 ∧
    (∀ (service : ServiceState) (timer : Nat) (high : Bool),
      service = .injecting ∨ service = .lockout → ∃ (s : State) (v : SenseInput), s.awaitsSample ∧
        s.tmpl.sound ∧ s.ctl.service = service ∧ s.ctl.bypass = .closing ∧
        (∀ p, ¬ s.overcurrentNext v p) ∧ v.feedbackHigh = high ∧ s.ctl.timer = timer ∧ s.quietLink v ∧
        s.fm.first.kind = none) ∧
    ∀ (service : ServiceState) (count : Nat) (high : Bool),
      service = .standby ∨ service = .idleOut ∨ service = .lockout → ∃ (s : State) (v : SenseInput),
        s.awaitsSample ∧ s.tmpl.sound ∧ s.ctl.service = service ∧ s.ctl.service ≠ .injecting ∧
        s.ctl.bypass = .closed ∧ (∀ p, ¬ s.overcurrentNext v p) ∧
        (s.ctl.service ≠ .standby ∨ s.valid = false ∨ ∀ p, s.metricNext v p < s.det.qOn) ∧
        s.ctl.watch = true ∧ v.feedbackHigh = high ∧ s.ctl.uncommanded = count ∧ s.quietLink v ∧
        s.fm.first.kind = none := by
  refine ⟨⟨⟨rfl, by decide⟩, injecting_sound _, rfl, rfl, injecting_current _⟩, rfl, ⟨rfl, by decide⟩,
    by decide, fun service timer high _ => ?_, fun service count high h => ?_⟩
  · exact ⟨feeling (injecting .closing) service timer 0, { sag with feedbackHigh := high },
      ⟨rfl, (by decide : 0 < 64)⟩, injecting_sound .closing, rfl, rfl, feeling_current service timer 0 .closing, rfl, rfl,
      .inr (.inr quietLink_sag), rfl⟩
  · refine ⟨{ feeling standby service 0 count with tmpl := Template.reset },
      { sag with feedbackHigh := high }, ⟨rfl, (by decide : 0 < 64)⟩, ⟨rfl, fun w hw => by cases hw⟩, rfl, ?_, rfl,
      feeling_current service 0 count .closed, .inr (.inl empty_invalid), rfl, rfl, rfl,
      .inr (.inr quietLink_sag), rfl⟩
    rcases h with h | h | h <;> simp [feeling, h]

/-- Station 1 with its bypass CLOSING and a re-onset pending, in a band and with an own transmit age. -/
def reonset (b : Band) (age : Nat) : State := { injecting .closing with
  ctl := { (injecting .closing).ctl with reonset := true }
  en := { (injecting .closing).en with band := b }
  su := { (injecting .closing).su with ownAge := age } }

/-- With the bypass CLOSING and the feedback OPEN, the template in force: some Q at Q_on, and none. -/
theorem witness_closingNotesAReonset : (injecting .closing).ctl.timer ≠ 1 ∧
    (injecting .closing).valid = true ∧ (injecting .closing).ctl.reonset = false ∧
    (∃ p, (injecting .closing).det.qOn ≤ (injecting .closing).metricNext { sag with feedbackHigh := true } p) ∧
    ∀ p, (injecting .closing).metricNext { silence with feedbackHigh := true } p < (injecting .closing).det.qOn :=
  ⟨by decide, by decide +kernel, rfl, ⟨.a, by decide +kernel⟩, fun p => by cases p <;> decide +kernel⟩

/-- Each clause: no Q at Q_on; and a pending re-onset with a Q at Q_on, the band DEPLETED or not, and the
station onset-barred at an own transmit age of L. -/
theorem witness_closeConfirmationEndsTheEpisode : ((injecting .closing).awaitsSample ∧
    (injecting .closing).tmpl.sound ∧ (injecting .closing).ctl.service = .injecting ∧
    (injecting .closing).ctl.bypass = .closing ∧ silence.feedbackHigh = false ∧
    (∀ p, ¬ (injecting .closing).overcurrentNext silence p) ∧
    (∀ p, (injecting .closing).metricNext silence p < (injecting .closing).det.qOn) ∧
    (injecting .closing).ep.current = some ⟨25000, some .energy, ⟨0, 0, 0⟩⟩) ∧
    (∀ b age, (reonset b age).awaitsSample ∧ (reonset b age).tmpl.sound ∧
      (reonset b age).ctl.service = .injecting ∧ (reonset b age).ctl.bypass = .closing ∧
      sag.feedbackHigh = false ∧ (∀ p, ¬ (reonset b age).overcurrentNext sag p) ∧
      (reonset b age).valid = true ∧ (reonset b age).ctl.reonset = true ∧
      (∃ p, (reonset b age).det.qOn ≤ (reonset b age).metricNext sag p) ∧
      (reonset b age).ep.current = some ⟨25000, some .energy, ⟨0, 0, 0⟩⟩ ∧ (reonset b age).en.band = b) ∧
    (∀ b, (reonset b 24).barred = false) ∧ (reonset .full 25).barred = true :=
  ⟨⟨⟨rfl, by decide⟩, injecting_sound _, rfl, rfl, rfl,
    fun p => by cases p <;> exact (by decide : ¬ (15000 ≤ 0)), fun p => by cases p <;> decide +kernel, rfl⟩,
   fun _ _ => ⟨⟨rfl, by show (0 < 64); decide⟩, injecting_sound .closing, rfl, rfl, rfl,
    injecting_current .closing, (by decide +kernel : standby.valid = true), rfl,
    ⟨.a, (by decide +kernel : standby.det.qOn ≤ standby.metricNext sag .a)⟩, rfl, rfl⟩,
   fun b => by cases b <;> decide +kernel, by decide +kernel⟩

/-- Each clause: both channels CAPTURING since the completed cycle, or the oldest earlier one, into the last
block of their regions; one whose write block lies beyond it; and one whose trigger cycle is still to come. -/
theorem witness_boundaryPublishesTheCycle : (due standby).awaitsBoundary ∧ (due standby).cap.copies = [] ∧
    (due standby).ep.current = none ∧ (after (.cycleBoundary [] [] []) (due standby)).ctl.service ≠ .lockout ∧
    (due { standby with ctl := { standby.ctl with service := .lockout } }).ctl.service = .lockout ∧
    ∀ (cycle : Stamp) (write : Nat), ∃ s : State, s.awaitsBoundary ∧ s.cap.copies = [] ∧
      s.tb.counter = 1000 ∧ ∀ one, (s.cap.channel one).state = .capturing ∧
        (s.cap.channel one).disarm = false ∧ (s.cap.channel one).cycle = cycle ∧
        (s.cap.channel one).last = 5 ∧ (s.cap.channel one).write = write :=
  ⟨⟨rfl, rfl⟩, rfl, rfl, by decide +kernel, rfl, fun cycle write => ⟨{ due standby with cap := { Capture.reset with
      ch0 := { Channel.reset with state := .capturing, cycle := cycle, last := 5, write := write }
      ch1 := { Channel.reset with state := .capturing, cycle := cycle, last := 5, write := write } } },
    ⟨rfl, rfl⟩, rfl, rfl, fun one => by cases one <;> exact ⟨rfl, rfl, rfl, rfl, rfl⟩⟩⟩

/-- Each lock state, with the coast counter one below the limit, which the boundary takes it to, and below. -/
theorem witness_boundarySetsThePeriod : ∀ (l : LockState) (coast : Nat), ∃ s : State,
    s.awaitsBoundary ∧ s.tb.lock = l ∧ s.tb.coast = coast ∧ s.port.params.coastLimit = 150 :=
  fun l coast => ⟨{ due standby with tb := { (due standby).tb with lock := l, coast := coast } }, ⟨rfl, rfl⟩,
    rfl, rfl, (by decide +kernel : standby.port.params.coastLimit = 150)⟩

/-- Each clause: the count reaching H, the notice flag with a quiet cycle, and a bypass CLOSING. -/
theorem witness_restoreCountDecidesRidden :
    (∃ s : State, s.awaitsBoundary ∧ s.ctl.service = .injecting ∧ s.port.storeErrors = [] ∧
      s.det.quiet = true ∧ s.det.restoreCount + 1 = s.port.params.h ∧ s.ctl.open_) ∧
    (∃ s : State, s.awaitsBoundary ∧ s.ctl.service = .injecting ∧ s.port.storeErrors = [] ∧
      s.det.quiet = true ∧ s.det.restoreNotice = true ∧ s.det.restoreCount = 0 ∧ s.ctl.open_) ∧
    ((due (injecting .closing)).awaitsBoundary ∧ (due (injecting .closing)).ctl.bypass = .closing) :=
  ⟨⟨{ due (injecting .opened) with det := { standby.det with quiet := true, restoreCount := 2 } },
      ⟨rfl, rfl⟩, rfl, rfl, rfl, by decide +kernel, .inr rfl⟩,
   ⟨{ due (injecting .opening) with det := { standby.det with quiet := true, restoreNotice := true } },
      ⟨rfl, rfl⟩, rfl, rfl, rfl, rfl, rfl, .inl rfl⟩, ⟨rfl, rfl⟩, rfl⟩

/-- An injecting station at a boundary that raises one cause alone, or none: the restore count one below H,
Vdc at Vmin, an own transmit age one below L, and the coast counter one below its limit. -/
def raising (c : Option Cause) : State :=
  let s := due (injecting .opened)
  match c with
  | some .ridden => { s with det := { s.det with quiet := true, restoreCount := 2 } }
  | some .energy => { s with tb := { s.tb with vdc := 2000 } }
  | some .line => { s with su := { s.su with ownAge := 24 } }
  | some .lock => { s with tb := { s.tb with lock := .coast, lockHeld := false, coast := 149 } }
  | some .template => s
  | none => s

/-- The causes due at a boundary from one state to another. -/
def causesDue (s t : State) : List Cause :=
  let count := if s.det.quiet then min s.port.params.h (s.det.restoreCount + 1) else 0
  (if (count = s.port.params.h ∧ s.det.restoreCount + 1 = s.port.params.h) ∨
      (s.det.restoreNotice = true ∧ 1 ≤ count) then [.ridden] else []) ++
  (if t.en.band = .depleted ∨ s.tb.vdc ≤ s.port.params.vmin then [.energy] else []) ++
  (if s.port.params.l ≤ t.su.ownAge ∧ t.su.isolated = false ∧ s.nExp ≠ 1 then [.line] else []) ++
  (if s.tb.lock = .coast ∧ s.port.params.coastLimit ≤ s.tb.coast + 1 then [.lock] else [])

/-- A quiet cycle and one that was not, with the disarm flag set, in every service state; and a record whose
elapsed cycle a cause writes. -/
theorem witness_disarmAtABoundary : (∀ (service : ServiceState) (quiet : Bool), ∃ s : State, s.awaitsBoundary ∧
      s.ctl.service = service ∧ s.det.quiet = quiet ∧ s.det.disarm = true ∧ s.tmpl.ring.length ≠ 3) ∧
    ∀ c, (raising c).ep.current = some ⟨25000, none, ⟨0, 0, 0⟩⟩ ∧
      (raising c).ep.records.getLast? = some openRecord :=
  ⟨fun service quiet => ⟨{ due standby with
      ctl := { standby.ctl with service := service }
      det := { standby.det with quiet := quiet, disarm := true } },
    ⟨rfl, rfl⟩, rfl, rfl, rfl, (by decide : flatTemplate.ring.length ≠ 3)⟩,
   fun c => by rcases c with _ | c <;> first | exact ⟨rfl, rfl⟩ | (cases c <;> exact ⟨rfl, rfl⟩)⟩

/-- Each cause due alone, and none. -/
theorem witness_causesOfABoundary : ∀ c, c ≠ some .template →
    ((raising c).awaitsBoundary ∧ (raising c).port.committed = true ∧
      (raising c).ctl.service = .injecting ∧ (raising c).tmpl.injected = true ∧
      (raising c).port.storeErrors = [] ∧ (raising c).ctl.open_) ∧
    causesDue (raising c) (after (.cycleBoundary [] [] []) (raising c)) = c.toList := by
  rintro (_ | c) h
  · exact ⟨⟨⟨rfl, rfl⟩, rfl, rfl, rfl, rfl, .inr rfl⟩, by decide +kernel⟩
  · cases c
    case template => exact absurd rfl h
    all_goals exact ⟨⟨⟨rfl, rfl⟩, rfl, rfl, rfl, rfl, .inr rfl⟩, by decide +kernel⟩

/-- Each clause: a cycle at each end of the level range, appended to a full ring and to a ring of three, and
a cycle one below it. -/
theorem witness_healthyCycleIsAppended :
    (∃ s : State, s.awaitsBoundary ∧ s.ctl.service ≠ .injecting ∧ s.tb.lock ≠ .coast ∧ s.tmpl.sound ∧
      s.tmpl.collecting.errors = [] ∧ s.port.storeErrors = [] ∧ s.tb.lockHeld = true ∧
      s.tmpl.injected = false ∧ s.tmpl.disturbed = false ∧ s.tmpl.emptied = false ∧
      s.tb.acc = ⟨6945767424, 8589934592, 10401873920⟩ ∧ s.tmpl.ring.length = 4) ∧
    (∃ s : State, s.awaitsBoundary ∧ s.tmpl.sound ∧ s.ctl.service = .syncing ∧ s.tb.lock = .locked ∧
      s.tmpl.collecting.errors = [] ∧ s.port.storeErrors = [] ∧ s.tb.lockHeld = true ∧
      s.tmpl.injected = false ∧ s.tmpl.disturbed = false ∧ s.tmpl.emptied = false ∧
      s.tb.acc = .all 8589934592 ∧ s.tmpl.ring.length = 3) ∧
    ∃ s : State, s.awaitsBoundary ∧ s.ctl.service ≠ .injecting ∧ s.tb.lock ≠ .coast ∧ s.tmpl.sound ∧
      s.tmpl.collecting.errors = [] ∧ s.port.storeErrors = [] ∧ ¬ 6945767424 ≤ s.tb.acc.get .a :=
  ⟨⟨{ due standby with tb := { (due standby).tb with acc := ⟨6945767424, 8589934592, 10401873920⟩ } },
      ⟨rfl, rfl⟩, by decide, by decide, standby_sound, rfl, rfl, rfl, rfl, rfl, rfl, rfl, by decide⟩,
   ⟨{ due standby with
        tb := { (due standby).tb with acc := .all 8589934592 }
        tmpl := { flatTemplate with ring := List.replicate 3 .zero }
        ctl := { standby.ctl with service := .syncing } },
      ⟨rfl, rfl⟩,
      (by decide +kernel : Waveform.zero.errors = [] ∧ ∀ w ∈ List.replicate 3 Waveform.zero, w.errors = []),
      rfl, rfl, rfl, rfl, rfl, rfl, rfl, rfl, rfl, by decide⟩,
   { due standby with tb := { (due standby).tb with acc := .all 6945767423 } }, ⟨rfl, rfl⟩, by decide,
   by decide, standby_sound, rfl, rfl, by decide⟩

/-- A SYNCING station whose template is VALID, in each lock state and whatever its cycle, below the coast
limit; and one whose ring cannot fill at this boundary. -/
theorem witness_boundaryTestsReadiness : (∀ (l : LockState) (held : Bool), ∃ s : State, s.awaitsBoundary ∧
      s.tmpl.sound ∧ s.tmpl.collecting.errors = [] ∧ s.port.storeErrors = [] ∧ s.ctl.service = .syncing ∧
      s.valid = true ∧ s.tb.lock = l ∧ s.tb.lockHeld = held ∧ s.tb.coast + 1 < s.port.params.coastLimit) ∧
    ∃ s : State, s.awaitsBoundary ∧ s.tmpl.sound ∧ s.tmpl.collecting.errors = [] ∧ s.port.storeErrors = [] ∧
      s.ctl.service = .syncing ∧ s.tb.lock = .locked ∧ s.tmpl.ring.length = 2 :=
  ⟨fun l held => ⟨{ due standby with
      tb := { (due standby).tb with lock := l, lockHeld := held, coast := 148 }
      ctl := { standby.ctl with service := .syncing } },
    ⟨rfl, rfl⟩, standby_sound, rfl, rfl, rfl, (by decide +kernel : standby.valid = true), rfl, rfl,
    (by decide +kernel : 148 + 1 < standby.port.params.coastLimit)⟩,
   { due standby with
      tmpl := { flatTemplate with ring := List.replicate 2 .zero }
      ctl := { standby.ctl with service := .syncing } },
   ⟨rfl, rfl⟩,
   (by decide +kernel : Waveform.zero.errors = [] ∧ ∀ w ∈ List.replicate 2 Waveform.zero, w.errors = []),
   rfl, rfl, rfl, rfl, by decide⟩

theorem witness_bandFollowsTheCabinetFraction : (due standby).awaitsBoundary ∧
    (due standby).port.committed = true ∧ (due standby).port.storeErrors = [] := ⟨⟨rfl, rfl⟩, rfl, rfl⟩

/-- Each clause at a boundary value of its range: e one below the end cycle, and the last segment at 65535. -/
theorem witness_envelopeFractionOfASegment :
    ((∀ seg ∈ [(10, 128)], seg.1 ≤ 24) ∧ 24 < 25) ∧ (∀ seg ∈ [(10, 128), (25, 179)], seg.1 ≤ 65535) := by
  decide

/-- A STANDBY and an injecting station at a sample event, and stations at a boundary, the first fault empty
or filled. -/
theorem witness_protectedWordsAreChecked :
    (standby.awaitsSample ∧ standby.valid = true ∧ standby.tmpl.sound ∧ 0 < standby.det.qOn ∧
      (∀ p, ¬ standby.overcurrentNext sag p) ∧ standby.ctl.service = .standby ∧
      standby.ctl.bypass = .closed ∧ sag.feedbackHigh = false) ∧
    ((injecting .opened).awaitsSample ∧ (injecting .opened).valid = true ∧ (injecting .opened).tmpl.sound ∧
      0 < (injecting .opened).det.qOn ∧ (∀ p, ¬ (injecting .opened).overcurrentNext sag p) ∧
      (injecting .opened).ctl.service = .injecting ∧ (injecting .opened).ctl.open_ ∧
      (injecting .opened).quietFeedback sag) ∧
    ((injecting .opening).awaitsSample ∧ (injecting .opening).valid = true ∧
      (injecting .opening).tmpl.sound ∧ 0 < (injecting .opening).det.qOn ∧
      (∀ p, ¬ (injecting .opening).overcurrentNext sag p) ∧ (injecting .opening).ctl.open_ ∧
      (injecting .opening).ctl.timer = 2 ∧ (injecting .opening).quietFeedback sag) ∧
    ((due standby).awaitsBoundary ∧ (due standby).tmpl.sound ∧ (due standby).tmpl.collecting.errors = [] ∧
      (due standby).port.storeErrors = [] ∧ (due standby).fm.scrub = true ∧
      (due standby).fm.first.kind = none ∧ 28 < 29) ∧
    ∃ s : State, s.awaitsBoundary ∧ s.tmpl.sound ∧ s.tmpl.collecting.errors = [] ∧
      s.port.storeErrors = [] ∧ s.fm.scrub = true ∧ s.fm.first.kind ≠ none ∧ s.ctl.service = .injecting :=
  ⟨⟨⟨rfl, by decide⟩, by decide +kernel, standby_sound, by decide,
      fun p => by cases p <;> exact (by decide +kernel : ¬ (15000 ≤ 100)), rfl, rfl, rfl⟩,
   ⟨⟨rfl, by decide⟩, by decide +kernel, injecting_sound .opened, by decide,
      fun p => by cases p <;> exact (by decide +kernel : ¬ (15000 ≤ 100)), rfl, .inr rfl, trivial⟩,
   ⟨⟨rfl, by decide⟩, by decide +kernel, injecting_sound .opening, by decide, injecting_current .opening,
      .inl rfl, rfl, (.inr (by decide) : _ ∨ _)⟩,
   ⟨⟨rfl, rfl⟩, standby_sound, rfl, rfl, rfl, rfl, by decide⟩,
   { due (injecting .opened) with
      fm := { (due standby).fm with first := ⟨some .lineStuck, .standby, 5, 6, none, none, 255⟩ } },
   ⟨rfl, rfl⟩, injecting_sound .opened, rfl, rfl, rfl, by decide, rfl⟩

/-- The words of the held cycles: the newest, read by the scrub, in STANDBY and INJECTING; and those that a
recomputation reads, of a full ring, whose oldest cycle leaves, and of a ring of three. -/
theorem witness_heldWordsAreChecked :
    (3 < standby.tmpl.ring.length ∧ standby.quietLink sag ∧ standby.quietFeedback sag ∧
      standby.fm.first.kind = none ∧ ∀ p, standby.metricNext silence p < standby.det.qOn) ∧
    (3 < (injecting .opened).tmpl.ring.length ∧ (injecting .opened).quietLink sag ∧
      (injecting .opened).fm.first.kind = none) ∧
    (∃ s : State, s.awaitsBoundary ∧ s.tmpl.sound ∧ s.tmpl.collecting.errors = [] ∧ s.port.storeErrors = [] ∧
      s.ctl.service = .standby ∧ s.tb.lock = .locked ∧ s.tb.lockHeld = true ∧ s.tmpl.injected = false ∧
      s.tmpl.disturbed = false ∧ s.tmpl.emptied = false ∧ s.tb.acc = .all 8589934592 ∧
      s.tmpl.ring.length = 4 ∧ s.tmpl.ring.length ≤ 1 + 3 ∧ 63 < 64) ∧
    ∃ s : State, s.awaitsBoundary ∧ s.tmpl.sound ∧ s.tmpl.collecting.errors = [] ∧ s.port.storeErrors = [] ∧
      s.ctl.service = .syncing ∧ s.tb.lock = .locked ∧ s.tb.lockHeld = true ∧ s.tmpl.injected = false ∧
      s.tmpl.disturbed = false ∧ s.tmpl.emptied = false ∧ s.tb.acc = .all 8589934592 ∧
      s.tmpl.ring.length = 3 ∧ s.tmpl.ring.length ≤ 0 + 3 :=
  ⟨⟨by decide, .inr (.inr quietLink_sag), (.inr (.inl rfl) : _ ∨ _ ∨ _), rfl,
     fun p => by cases p <;> decide +kernel⟩,
   ⟨by decide, .inr (.inr quietLink_sag), rfl⟩,
   ⟨{ due standby with tb := { (due standby).tb with acc := .all 8589934592 } },
    ⟨rfl, rfl⟩, standby_sound, rfl, rfl, rfl, rfl, rfl, rfl, rfl, rfl, rfl, by decide, by decide, by decide⟩,
   { due standby with
      tb := { (due standby).tb with acc := .all 8589934592 }
      tmpl := { flatTemplate with ring := List.replicate 3 .zero }
      ctl := { standby.ctl with service := .syncing } },
   ⟨rfl, rfl⟩,
   (by decide +kernel : Waveform.zero.errors = [] ∧ ∀ w ∈ List.replicate 3 Waveform.zero, w.errors = []),
   rfl, rfl, rfl, rfl, rfl, rfl, rfl, rfl, rfl, by decide, by decide⟩

theorem witness_planOfABoundary : (due (injecting .opened)).awaitsBoundary ∧
    (due (injecting .opened)).port.committed = true ∧ (due (injecting .opened)).ctl.service = .injecting ∧
    (due (injecting .opened)).tmpl.injected = true ∧ (due (injecting .opened)).port.storeErrors = [] ∧
    (due (injecting .opened)).ep.records.getLast? = some openRecord ∧
    ∃ s : State, s.awaitsBoundary ∧ s.port.committed = true ∧ s.ctl.service = .injecting ∧
      s.tmpl.injected = true ∧ s.port.storeErrors = [] ∧ s.ep.records.getLast? = some openRecord ∧
      s.tb.vdc ≤ s.port.params.vmin ∧ s.ctl.open_ :=
  ⟨⟨rfl, rfl⟩, rfl, rfl, rfl, rfl, rfl,
   { due (injecting .opened) with tb := { (due (injecting .opened)).tb with vdc := 2000 } },
   ⟨rfl, rfl⟩, rfl, rfl, rfl, rfl, rfl, by decide +kernel, .inr rfl⟩

/-- Each clause: the second elapsed cycle and later ones with the injected flag set; shares in force that all
arrived and sum to 256, and that do not. -/
theorem witness_openRecordTakesTheBoundary : (due (injecting .opened)).awaitsBoundary ∧
    (due (injecting .opened)).port.committed = true ∧ (due (injecting .opened)).ctl.service = .injecting ∧
    (due (injecting .opened)).port.storeErrors = [] ∧
    (due (injecting .opened)).ep.current = some ⟨25000, none, ⟨0, 0, 0⟩⟩ ∧
    (due (injecting .opened)).ep.records.getLast? = some openRecord ∧
    (due (injecting .opened)).tmpl.injected = true ∧
    2 ≤ min 65535 ((due (injecting .opened)).tb.counter - openRecord.stamp + 1).toNat ∧
    ∀ share, ∃ s : State, s.awaitsBoundary ∧ s.port.committed = true ∧ s.ctl.service = .injecting ∧
      s.port.storeErrors = [] ∧ s.ep.current = some ⟨25000, none, ⟨0, 0, 0⟩⟩ ∧
      s.ep.records.getLast? = some openRecord ∧ s.su.selfMember = true ∧ s.su.isolated = false ∧
      s.nExp ≠ 1 ∧ (∀ k ∈ s.su.members, (s.su.entry k).refreshed.share = true) ∧
      s.dp.share + (s.su.members.map fun k => (s.su.entry k).share).sum = 84 + share :=
  ⟨⟨rfl, rfl⟩, rfl, rfl, rfl, rfl, rfl, rfl, by decide +kernel, fun share => ⟨{ due (injecting .opened) with
      su := { standby.su with members := [2], peers := standby.su.peers.set 2 { peer 15000 with
        share := share, refreshed := ⟨true, true, true, true⟩ } } },
    ⟨rfl, rfl⟩, rfl, rfl, rfl, rfl, rfl, rfl, rfl, (by decide +kernel : standby.nExp ≠ 1), fun k hk => by
      cases List.mem_singleton.mp hk; rfl, rfl⟩⟩

/-- Each clause: an entry whose age is one below L, which the boundary loses; and a silence counter one below
L, at L less 2, and at its greatest in a station ISOLATED already. -/
theorem witness_peerTableAgesAtABoundary : (∃ s : State, s.awaitsBoundary ∧ s.port.committed = true ∧
      s.su.peers.length = 8 ∧ (s.su.entry 2).state = .present ∧ (s.su.entry 2).age + 1 = s.port.params.l) ∧
    (∀ silence isolated, ∃ s : State, s.awaitsBoundary ∧ s.port.committed = true ∧
      s.su.peers.length = 8 ∧ s.su.silence = silence ∧ s.su.isolated = isolated ∧ s.port.params.l = 25 ∧
      1 < s.nExp) :=
  ⟨⟨{ due standby with su := { standby.su with
       peers := standby.su.peers.set 2 { peer 15000 with age := 24 } } },
    ⟨rfl, rfl⟩, rfl, by decide +kernel, by decide +kernel, by decide +kernel⟩,
   fun silence isolated => ⟨{ due standby with
       su := { standby.su with silence := silence, isolated := isolated } },
    ⟨rfl, rfl⟩, rfl, (by decide +kernel : standby.su.peers.length = 8), rfl, rfl,
    (by decide +kernel : standby.port.params.l = 25), (by decide +kernel : 1 < standby.nExp)⟩⟩

/-- With the own transmit age at its largest count below the boundary that bars the station. -/
theorem witness_shareOfAnInjectingBoundary : ∃ s : State, s.awaitsBoundary ∧ s.port.committed = true ∧
    s.ctl.service = .injecting ∧ s.port.storeErrors = [] ∧ s.su.ownAge + 1 = s.port.params.l ∧
    s.su.isolated = false ∧ s.nExp ≠ 1 ∧ s.ctl.open_ :=
  ⟨{ due (injecting .opened) with su := { standby.su with ownAge := 24 } },
   ⟨rfl, rfl⟩, rfl, rfl, rfl, by decide +kernel, rfl, by decide +kernel, .inr rfl⟩

/-- A boundary in STANDBY, and into it from SYNCING; and those at which the share is not set. -/
theorem witness_shareOfABoundary : ((due standby).awaitsBoundary ∧ (due standby).port.committed = true ∧
      (due standby).port.storeErrors = [] ∧ (due standby).ctl.service = .standby ∧
      (after (.cycleBoundary [] [] []) (due standby)).ctl.service = .standby) ∧
    (∃ s : State, s.awaitsBoundary ∧ s.port.committed = true ∧ s.port.storeErrors = [] ∧
      s.ctl.service = .syncing ∧ (after (.cycleBoundary [] [] []) s).ctl.service = .standby) ∧
    ((∃ s : State, s.awaitsBoundary ∧ s.port.committed = true ∧ s.port.storeErrors = [] ∧
      s.ctl.service = .withdrawn ∧ (after (.cycleBoundary [] [] []) s).su.isolated = s.su.isolated)) ∧
    ∃ s : State, s.awaitsBoundary ∧ s.port.committed = true ∧ s.port.storeErrors = [] ∧
      s.ctl.service = .syncing ∧ s.tb.lock = .search ∧
      (after (.cycleBoundary [] [] []) s).su.isolated = s.su.isolated :=
  ⟨⟨⟨rfl, rfl⟩, rfl, rfl, rfl, by decide +kernel⟩,
   ⟨{ due standby with ctl := { standby.ctl with service := .syncing } }, ⟨rfl, rfl⟩, rfl, rfl, rfl,
    by decide +kernel⟩,
   ⟨{ due standby with ctl := { standby.ctl with service := .withdrawn } }, ⟨rfl, rfl⟩, rfl, rfl, rfl,
    by decide +kernel⟩,
   { due standby with
      tb := { (due standby).tb with lock := .search }
      ctl := { standby.ctl with service := .syncing } }, ⟨rfl, rfl⟩, rfl, rfl, rfl, rfl, by decide +kernel⟩

/-- Channels armed for RESTORE, the capture work of the boundary taken or not, with a write block in its region
and beyond it. -/
theorem witness_riddenBeginsHandback : ∀ (captured : Bool) (write : Nat), ∃ s : State, s.held = .released ∧
    s.inst.boundary = some 999 ∧ s.ctl.service = .injecting ∧ s.ctl.open_ ∧
    s.det.restoreCount = s.port.params.h ∧ s.ep.current = some ⟨25000, none, ⟨0, 0, 0⟩⟩ ∧
    s.ep.records.getLast? = some openRecord ∧ s.inst.captured = captured ∧
    (∀ one, (s.cap.channel one).state = .armed ∧ (s.cap.channel one).kind = .restore) ∧
    (s.cap.channel false).write ≤ (s.cap.channel false).last ∧ (s.cap.channel true).write = write ∧
    (s.cap.channel true).last = 5 := fun captured write =>
  ⟨armedFor .restore write { injecting .opened with
      inst := { standby.inst with boundary := some 999, captured := captured }
      det := { standby.det with restoreCount := 3 } },
   rfl, rfl, rfl, .inr rfl, (by decide +kernel : 3 = standby.port.params.h), rfl, rfl, rfl,
   fun one => (by cases one <;> exact ⟨rfl, rfl⟩), (by decide : 3 ≤ 3), rfl, rfl⟩

/-- R52, R143: RIDDEN starts a channel armed for RESTORE with the completed cycle. -/
theorem test_ridden_trigger : (after .ridden (armedFor .restore 5 { atEdge (injecting .opened) with
    det := { standby.det with restoreCount := 3 } })).cap.ch1.cycle = 999 := by decide +kernel

/-- An expired entry at an age of L, and a channel armed for PEER_LOSS at the last block of its region. -/
theorem witness_peerLossLosesTheEntry : ∃ s : State, s.held = .released ∧ s.inst.boundary = some 999 ∧
    s.port.committed = true ∧ (s.su.entry (2 : BitVec 3).toNat).state = .present ∧
    s.port.params.l ≤ (s.su.entry (2 : BitVec 3).toNat).age ∧ (s.cap.channel true).state = .armed ∧
    (s.cap.channel true).kind = .peerLoss ∧ (s.cap.channel true).write ≤ (s.cap.channel true).last :=
  ⟨{ atEdge standby with
      su := { standby.su with peers := standby.su.peers.set 2 { peer 15000 with age := 25 } }
      cap := { Capture.reset with ch1 := { Channel.reset with
        state := .armed, kind := .peerLoss, count := 1, first := 3, last := 3, write := 3 } } },
   rfl, rfl, rfl, by decide +kernel, by decide +kernel, rfl, rfl, by decide +kernel⟩

theorem witness_silenceIsolatesAndAgeBars :
    (∃ s : State, s.held = .released ∧ s.inst.boundary = some 999 ∧ s.port.committed = true ∧
      s.port.params.l ≤ s.su.silence ∧ 1 < s.nExp ∧ s.su.isolated = false) ∧
    (∃ s : State, s.held = .released ∧ s.inst.boundary = some 999 ∧ s.port.committed = true ∧
      s.port.params.l ≤ s.su.ownAge ∧ s.su.isolated = false ∧ s.nExp ≠ 1 ∧ s.su.silence ≠ 0 ∧
      s.ctl.service = .standby) ∧
    ∃ s : State, s.held = .released ∧ s.inst.boundary = some 999 ∧ s.port.committed = true ∧
      s.port.params.l ≤ s.su.ownAge ∧ s.su.isolated = false ∧ s.nExp ≠ 1 ∧ s.su.silence ≠ 0 ∧
      s.ctl.service = .injecting ∧ s.ctl.open_ :=
  ⟨⟨{ atEdge standby with su := { standby.su with silence := 25 } }, rfl, rfl, rfl, by decide +kernel,
      by decide +kernel, rfl⟩,
   ⟨{ atEdge standby with su := { standby.su with ownAge := 25, silence := 1 } }, rfl, rfl, rfl,
      by decide +kernel, rfl, by decide +kernel, by decide, rfl⟩,
   { atEdge (injecting .opening) with su := { standby.su with ownAge := 25, silence := 1 } }, rfl, rfl, rfl,
   by decide +kernel, rfl, by decide +kernel, by decide, rfl, .inl rfl⟩

/-- The commands sent by themselves, with the throttle and the timer at 0; a boundary in INJECTING, STANDBY
and START with every throttle, line state and silent timer; and the slot-0 sample event with a frame that
waits, with one of each class, in a station that stays out of LOCKOUT. -/
theorem witness_throttleQueuesAndSilenceEnds :
    ((atEdge standby).held = .released ∧ (atEdge standby).inst.boundary = some 999 ∧
      (atEdge standby).port.committed = true ∧ (atEdge standby).line.throttle = 0 ∧
      (atEdge standby).ctl.service = .standby ∧ (atEdge standby).line.queue.status = none) ∧
    (∃ s : State, s.held = .released ∧ s.line.state = .silent ∧ s.line.silentTimer = 0) ∧
    (∃ s : State, s.held = .released ∧ s.line.state = .stuck ∧ s.line.back = .silent ∧
      s.line.silentTimer = 0) ∧
    (∀ (r : State) (state back : LineState) (throttle timer : Nat),
      r = injecting .opened ∨ r = standby ∨ r = staged →
      ∃ s : State, s.ctl = r.ctl ∧ s.port = r.port ∧ s.awaitsBoundary ∧ s.port.storeErrors = [] ∧
        s.line.state = state ∧ s.line.back = back ∧ s.line.throttle = throttle ∧
        s.line.silentTimer = timer) ∧
    ∃ s : State, s.awaitsSample ∧ s.tb.nextSlot = 0 ∧
      (∀ c, s.line.queue.get c = some ⟨0, true⟩) ∧
      (after (.sampleEvent silence [] []) s).ctl.service ≠ .lockout := by
  refine ⟨⟨rfl, rfl, rfl, rfl, rfl, rfl⟩,
   ⟨{ standby with line := { standby.line with state := .silent, tec := 128 } }, rfl, rfl, rfl⟩,
   ⟨{ standby with line := { standby.line with state := .stuck, back := .silent, tec := 128 } }, rfl, rfl, rfl,
   rfl⟩, fun r state back throttle timer h => ⟨{ due r with line := { r.line with
      state := state, back := back, throttle := throttle, silentTimer := timer } }, rfl, rfl, ?_, ?_, rfl, rfl,
      rfl, rfl⟩, { standby with line := { standby.line with queue :=
        ⟨some ⟨0, true⟩, some ⟨0, true⟩, some ⟨0, true⟩, some ⟨0, true⟩, some ⟨0, true⟩⟩ } },
      ⟨rfl, by decide⟩, rfl, fun c => by cases c <;> rfl, by decide +kernel⟩
  · rcases h with rfl | rfl | rfl <;> exact ⟨rfl, rfl⟩
  · rcases h with rfl | rfl | rfl <;> rfl

/-- Each clause: a boundary at which the coast counter reaches the limit, and one below it; and the command
sent by itself at the limit: an injecting station with the bypass OPENING, one in STANDBY, one WITHDRAWN. -/
theorem witness_coastLimitReturnsToSearch :
    ∀ r : State, r = injecting .opening ∨ r = standby ∨
        r = { standby with ctl := { standby.ctl with service := .withdrawn } } →
      (∃ s : State, s.ctl = r.ctl ∧ s.held = .released ∧ s.inst.boundary = some 999 ∧ s.tb.lock = .coast ∧
        s.tb.coast = s.port.params.coastLimit ∧ s.port.committed = true ∧ s.valid = true) ∧
      ∀ coast, ∃ s : State, s.ctl = r.ctl ∧ s.awaitsBoundary ∧ s.tb.lock = .coast ∧
        s.tb.lockHeld = false ∧ s.port.committed = true ∧ s.port.storeErrors = [] ∧ s.tb.coast = coast ∧
        s.port.params.coastLimit = 150 ∧ s.valid = true := by
  intro r _
  exact ⟨⟨{ atEdge standby with ctl := r.ctl, tb := { standby.tb with lock := .coast, coast := 150 } }, rfl,
    rfl, rfl, rfl, (by decide +kernel : 150 = standby.port.params.coastLimit), rfl,
    (by decide +kernel : standby.valid = true)⟩,
   fun coast => ⟨{ standby with ctl := r.ctl, tb := { (due standby).tb with
      lock := .coast, lockHeld := false, coast := coast } }, rfl, ⟨rfl, rfl⟩, rfl, rfl, rfl, rfl, rfl,
    (by decide +kernel : standby.port.params.coastLimit = 150), (by decide +kernel : standby.valid = true)⟩⟩

theorem witness_bypassFailuresTripTheStation :
    (∃ s : State, s.held = .released ∧ s.ctl.service = .injecting ∧ s.ctl.timer = 0 ∧
      s.ep.current = some ⟨25000, none, ⟨0, 0, 0⟩⟩ ∧ s.ctl.bypass = .opening ∧ s.tb.feedbackOpen = false) ∧
    (∃ s : State, s.held = .released ∧ s.ctl.service = .injecting ∧ s.ctl.timer = 0 ∧
      s.ep.current = some ⟨25000, some .energy, ⟨0, 0, 0⟩⟩ ∧ s.ctl.bypass = .closing ∧
      s.tb.feedbackOpen = true ∧ s.ctl.closeFailed = false) ∧
    ∃ s : State, s.held = .released ∧ s.ctl.bypass = .closed ∧ 4 ≤ s.ctl.uncommanded ∧
      s.ctl.service = .standby :=
  ⟨⟨{ injecting .opening with
        ctl := { (injecting .opening).ctl with timer := 0 }, tb := standby.tb },
      rfl, rfl, rfl, rfl, rfl, rfl⟩,
   ⟨{ injecting .closing with ctl := { (injecting .closing).ctl with timer := 0 } }, rfl, rfl, rfl, rfl, rfl,
      rfl, rfl⟩,
   { standby with ctl := { standby.ctl with uncommanded := 4 } }, rfl, rfl, by decide, rfl⟩

theorem witness_portTimersRunOut : (staged.held = .released ∧ staged.port.window = true ∧
      staged.ctl.service = .start) ∧ standby.port.window = false ∧ 64 ≤ standby.ctl.samples ∧
    staged.port.pending &&& 1 ≠ 0 := ⟨⟨rfl, rfl, rfl⟩, rfl, by decide, by decide⟩

/-- Each clause: a pending disarm, a last block, and a block with another to come. -/
theorem witness_blockCopyCompletes : ∀ disarm count, ∃ s : State, s.held = .released ∧
    s.cap.copies = true :: [false] ∧ s.cap.completed.length = 384 ∧
    (s.cap.channel true).disarm = disarm ∧ (s.cap.channel true).count = count ∧ s.cap.memory.wf = true :=
  fun disarm count => ⟨{ standby with cap := { Capture.reset with
    copies := [true, false]
    ch1 := { Channel.reset with state := .capturing, count := count, last := 5, disarm := disarm } } },
    rfl, rfl, (by decide +kernel : zeroBlock.length = 384), rfl, rfl,
    (by decide +kernel : Capture.reset.memory.wf = true)⟩

/-- A SHARE frame at the greatest length and number, and a DEPART frame at the least length. -/
theorem witness_frameSurvivesTheLine : ∀ f : Frame,
    f = ⟨.share, 7, [0x5A, 0x95, 0, 1, 2, 3, 4, 5]⟩ ∨ f = ⟨.depart, 0, [0x5A, 0x31]⟩ →
    f.station < 8 ∧ f.cls.length ≤ f.payload.length ∧ f.payload.length ≤ 8 ∧
      ∃ b, f.payload[1]? = some b ∧ 1 ≤ b.toNat % 16 ∧ b.toNat % 16 ≤ 5 := by
  rintro f (rfl | rfl)
  · exact ⟨by decide, by decide, by decide, 0x95, by decide, by decide, by decide⟩
  · exact ⟨by decide, by decide, by decide, 0x31, by decide, by decide, by decide⟩

/-- A state that hears the last bits of a frame: those after the `n` read already. -/
def hearing (s : State) (f : Frame) (n dominant : Nat) : State := { s with line := { standby.line with
  tracking := if n = 0 then .idle else .receiving (f.bits.take n), dominant := dominant } }

/-- The bits of an accepted frame, from the start bit on an idle line or after some read already. -/
theorem hearing_hears (s : State) (f : Frame) (n dominant : Nat) (hd : dominant ≤ 11)
    (hn : n < f.bits.length) (hl : f.bits.length = 28 + 9 * f.payload.length)
    (hf : receiveFrame f.bits = some f) : (hearing s f n dominant).hears (f.bits.drop n) f := by
  refine ⟨hd, List.ne_nil_of_length_pos (by rw [List.length_drop]; omega), f.bits.take n, ?_, ?_, ?_⟩
  · unfold hearing Line.heard
    by_cases h : n = 0
    · simp [h, standby, Line.reset]
    · simp [h, standby, Line.reset]
  · rw [List.take_append_drop]; exact hl
  · rw [List.take_append_drop]; exact hf

/-- Each clause: a frame met on an idle line, and one followed up to its last bit with the longest dominant
run; a DEPART frame, and a STATUS frame with the sequence number of the last whose sender is no member any
more; a station with and without a block committed, and one ISOLATED. -/
theorem witness_acceptedFrameIsTaken : ∀ f : Frame,
    f = ⟨.depart, 2, [0x5A, 0xA4]⟩ ∨ f = ⟨.status, 2, [0x5A, 0x91, 0, 1]⟩ →
    (∀ (s : State) (n dominant : Nat), n ≤ 45 → dominant ≤ 11 →
      (hearing s f n dominant).hears (f.bits.drop n) f) ∧
    f.station ≠ standby.own ∧ f.station ≠ staged.own ∧ standby.su.peers.length = 8 ∧
    staged.su.peers.length = 8 ∧ standby.held = .released ∧ standby.port.committed = true ∧
    staged.held = .released ∧ staged.port.committed = false ∧ (standby.su.entry 2).seq = some 9 ∧
    (standby.su.entry 2).state = .present ∧ (standby.su.entry 2).reported = .standby ∧
    ({ standby.su with isolated := true } : ShareUnit).isolated = true := by
  rintro f (rfl | rfl)
  · refine ⟨fun s n d hn hd => hearing_hears s _ n d hd (Nat.lt_of_le_of_lt hn (by decide)) (by decide)
      (by decide +kernel), ?_⟩
    decide +kernel
  · refine ⟨fun s n d hn hd => hearing_hears s _ n d hd (Nat.lt_of_le_of_lt hn (by decide)) (by decide)
      (by decide +kernel), ?_⟩
    decide +kernel

/-- Each clause: an ONSET frame, with the band DEPLETED and another, and a RESTORE frame, of a member peer. -/
theorem witness_peerNoticesAreTaken :
    (∀ band, ∃ s : State, s.held = .released ∧
      s.hears (Frame.bits ⟨.onset, 0, [0x5A, 0xA3, 0x5F, 0x37, 1]⟩) ⟨.onset, 0, [0x5A, 0xA3, 0x5F, 0x37, 1]⟩ ∧
      0 ≠ s.own ∧ s.su.peers.length = 8 ∧ s.port.committed = true ∧ s.port.fingerprint = 0x5A ∧
      s.ctl.service = .standby ∧ s.ready = true ∧ s.su.ownAge < s.port.params.l ∧ s.det.disarm = false ∧
      s.en.band = band ∧ ∃ p, s.det.qJoin ≤ s.det.q.get p) ∧
    (injecting .opened).held = .released ∧
      (injecting .opened).hears (Frame.bits ⟨.restore, 0, [0x5A, 0xA3, 0x5F, 0x37, 0x81]⟩)
        ⟨.restore, 0, [0x5A, 0xA3, 0x5F, 0x37, 0x81]⟩ ∧
      (injecting .opened).ctl.service = .injecting :=
  ⟨fun band => ⟨{ standby with
      det := { standby.det with q := ⟨5366088, 0, 0⟩ }, en := { standby.en with band := band } }, rfl,
    ⟨(by decide : 0 ≤ 11), by decide, [], rfl, by decide, by decide +kernel⟩, (by decide +kernel : 0 ≠ standby.own),
    (by decide +kernel : standby.su.peers.length = 8), rfl, rfl, rfl, (by decide +kernel : standby.ready = true),
    (by decide +kernel : standby.su.ownAge < standby.port.params.l), rfl, rfl, .a,
    (by decide : 5366088 ≤ 5366088)⟩,
   rfl, ⟨by decide, by decide, [], rfl, by decide, by decide +kernel⟩, rfl⟩

/-- A check at a bit before the header spacer other than the last of the class and of the length fails
never. -/
theorem check_early (frame : List Bool) (k : Nat) (h : k < 10) (h3 : k ≠ 3) : ¬ checkFails frame k := by
  unfold checkFails
  rintro (h | h | h | h | ⟨h | ⟨_, _, h⟩ | h, _⟩) <;> omega

/-- Each clause: a dominant bit that begins a frame and fails nothing, a class of 7, which fails at its third
bit, after one followed already with the longest dominant run; a station that transmits; a controller that
follows no frame, whatever its run counts, and one on an idle line; and a frame with the own number. -/
theorem witness_failedAndDuplicateFrames :
    (standby.held = .released ∧ standby.line.dominant ≤ 11 ∧ standby.line.heard = some [] ∧
      ¬ checkFails [false] 0 ∧ 0 + 1 < 28 + 9 * fieldAt [false] 7 4) ∧
    (∃ s : State, s.held = .released ∧ s.line.dominant = 11 ∧ s.line.heard = some [false, true, true] ∧
      (∀ k, k < 3 → ¬ checkFails ([false, true, true] ++ [true]) k) ∧
      checkFails ([false, true, true] ++ [true]) 3 ∧
      3 < 28 + 9 * fieldAt ([false, true, true] ++ [true]) 7 4) ∧
    sending.line.tracking = .sending ⟨.depart, 1, [0x5A, 0x34]⟩ true ∧
    (∀ dominant recessive, ∃ s : State, s.held = .released ∧ s.line.state ≠ .stuck ∧
      s.line.tracking = .lost ∧ s.line.dominant = dominant ∧ s.line.recessive = recessive) ∧
    (standby.line.tracking = .idle ∧ standby.line.state ≠ .stuck) ∧
    standby.hears (Frame.bits ⟨.depart, 1, [0x5A, 0xA4]⟩) ⟨.depart, 1, [0x5A, 0xA4]⟩ ∧
    1 = standby.own ∧ standby.ctl.service ≠ .lockout ∧ standby.ctl.service ≠ .idleOut :=
  ⟨⟨rfl, by decide, rfl, check_early _ _ (by decide) (by decide), by decide⟩,
   ⟨{ standby with line := { standby.line with tracking := .receiving [false, true, true], dominant := 11 } },
    rfl, rfl, rfl, fun k hk => check_early _ _ (by omega) (by omega), .inl ⟨rfl, by decide⟩, by decide⟩, rfl,
   fun dominant recessive => ⟨{ standby with line := { standby.line with
      tracking := .lost, dominant := dominant, recessive := recessive } }, rfl,
      (by decide : LineState.active ≠ .stuck), rfl, rfl, rfl⟩,
   ⟨rfl, by decide⟩, ⟨by decide, by decide, [], rfl, by decide, by decide +kernel⟩, by decide +kernel,
   by decide, by decide⟩

/-- A RESTORE and a STATUS frame are pending; the RESTORE frame comes first. -/
theorem witness_frameBeginsWithItsContents : ∃ s : State, s.held = .released ∧ s.line.tracking = .idle ∧
    s.line.state = .active ∧
    [FrameClass.onset, .restore, .depart, .share, .status] = [.onset] ++ .restore :: [.depart, .share, .status] ∧
    (∀ d ∈ [FrameClass.onset], s.line.eligible d = false) ∧ s.line.eligible .restore = true :=
  ⟨{ standby with line := { standby.line with
      queue := { TxQueue.empty with restore := some ⟨0, false⟩, status := some ⟨0, false⟩ } } },
   rfl, rfl, rfl, rfl, by decide +kernel, by decide +kernel⟩

/-- Each clause: the first and last recessive arbitration bits; a controller that waits for an idle line, and
ones that follow a frame, transmit or find the line idle. -/
theorem witness_arbitrationIsLostWithoutError : sending.held = .released ∧
    sending.line.tracking = .sending ⟨.depart, 1, [0x5A, 0x34]⟩ true ∧
    (Frame.bits ⟨.depart, 1, [0x5A, 0x34]⟩)[2]? = some true ∧
    (Frame.bits ⟨.depart, 1, [0x5A, 0x34]⟩)[6]? = some true ∧
    (State.reset.held = .released ∧ State.reset.line.state ≠ .stuck ∧ State.reset.line.tracking = .lost) ∧
    sending.line.tracking ≠ .lost ∧ standby.held = .released ∧ standby.line.tracking ≠ .lost ∧
    (after .lineStuck sending).line.state = .stuck :=
  ⟨rfl, rfl, by decide +kernel, by decide +kernel, ⟨rfl, by decide, rfl⟩, by decide, rfl, by decide,
   by decide +kernel⟩

/-- Each clause: the header spacer read dominant, which fails the frame, and the last bit of the length field
read recessive, which does not. -/
theorem witness_bitErrorFailsAFrame :
    checkFails ((Frame.bits ⟨.depart, 1, [0x5A, 0x34]⟩).take 11
      ++ [!(Frame.bits ⟨.depart, 1, [0x5A, 0x34]⟩).getD 11 true]) 11 ∧
    ¬ checkFails ((Frame.bits ⟨.depart, 1, [0x5A, 0x34]⟩).take 10
      ++ [!(Frame.bits ⟨.depart, 1, [0x5A, 0x34]⟩).getD 10 true]) 10 := by
  refine ⟨.inr (.inr (.inr (.inr ⟨.inl rfl, by decide⟩))), ?_⟩
  unfold checkFails
  rintro (h | ⟨_, h⟩ | h | ⟨h, _⟩ | ⟨h | ⟨_, _, h⟩ | h, _⟩)
  · omega
  · revert h; decide
  · omega
  · revert h; decide
  · omega
  · omega
  · revert h; decide

/-- Each clause: the fourth error of a frame, and its first; the start bit, and the last bit. -/
theorem witness_bitErrorIsCounted : ∀ n, ∃ s : State, s.held = .released ∧
    s.line.tracking = .sending ⟨.depart, 1, [0x5A, 0x34]⟩ true ∧
    s.line.queue.get (Frame.cls ⟨.depart, 1, [0x5A, 0x34]⟩) = some ⟨n, false⟩ ∧
    0 < (Frame.bits ⟨.depart, 1, [0x5A, 0x34]⟩).length ∧
    45 < (Frame.bits ⟨.depart, 1, [0x5A, 0x34]⟩).length ∧ s.line.state = .active :=
  fun n => ⟨{ sending with line := { sending.line with
      queue := { TxQueue.empty with depart := some ⟨n, false⟩ } } },
    rfl, rfl, rfl, by decide +kernel, by decide +kernel, rfl⟩

theorem witness_completedFrameLeavesTheQueue : ∃ s : State, s.held = .released ∧
    s.line.tracking = .sending ⟨.depart, 1, [0x5A, 0x34]⟩ true ∧ s.line.state = .warned ∧ s.line.tec = 96 :=
  ⟨{ sending with line := { sending.line with state := .warned, tec := 96 } }, rfl, rfl, rfl, rfl⟩

theorem witness_lineIsStuckAndReturns : sending.held = .released ∧ sending.line.state ≠ .stuck ∧
    sending.fm.first.kind = none ∧ (after .lineStuck sending).fm.first.kind ≠ none ∧
    (∃ s : State, s.held = .released ∧ s.line.state ≠ .stuck ∧ s.fm.first.kind = none ∧ s.inst.work = none ∧
      ∀ one, (s.cap.channel one).state = .armed ∧ (s.cap.channel one).kind = .fault) ∧
    (∀ back, ∃ s : State, s.held = .released ∧ s.line.state = .stuck ∧ s.line.back = back) ∧
    ∀ (state : LineState) (dominant recessive : Nat), ∃ s : State, s.held = .released ∧
      (∀ f live, s.line.tracking ≠ .sending f live) ∧ s.line.state = state ∧ s.line.dominant = dominant ∧
      s.line.recessive = recessive :=
  ⟨rfl, by decide, rfl, by decide +kernel,
   ⟨armedFor .fault 5 sending, rfl, (by decide : sending.line.state ≠ .stuck), rfl, rfl,
    fun one => by cases one <;> exact ⟨rfl, rfl⟩⟩,
   fun back => ⟨{ standby with line := { standby.line with state := .stuck, back := back } }, rfl, rfl, rfl⟩,
   fun state dominant recessive => ⟨{ standby with line := { standby.line with
      tracking := .lost, state := state, dominant := dominant, recessive := recessive } }, rfl,
    fun _ _ h => (nomatch h), rfl, rfl, rfl⟩⟩

/-- Each clause: the ranges of CAPTURE_SELECT at their ends, and the staging area in and out of START. -/
theorem witness_registerWritesTakeTheirValues : standby.held = .released ∧ (39#8).toNat ≤ 39 ∧
    (383#16).toNat ≤ 383 ∧ 39 < (40#8).toNat ∧ 383 < (384#16).toNat ∧ staged.held = .released ∧
    staged.ctl.service = .start ∧ staged.port.staging.length = 64 ∧ standby.ctl.service ≠ .start :=
  ⟨rfl, by decide, by decide, by decide, by decide, rfl, rfl, by decide +kernel, by decide⟩

/-- Each clause: the block taken, a CRC that differs, a field that fails, and another service state. -/
theorem witness_commitTakesTheBlock :
    (staged.held = .released ∧ staged.ctl.service = .start ∧ crc8 (staged.port.staging.take 58) = 0xD1 ∧
      failedField (staged.port.staging.take 58) = none ∧ staged.port.staging.length = 64) ∧
    crc8 (staged.port.staging.take 58) ≠ 0xD0 ∧
    (∃ s : State, s.held = .released ∧ s.ctl.service = .start ∧
      failedField (s.port.staging.take 58) = some 32) ∧ standby.ctl.service ≠ .start :=
  ⟨⟨rfl, rfl, by decide +kernel, by decide +kernel, by decide +kernel⟩, by decide +kernel,
   ⟨{ staged with port := { staged.port with staging := exampleBlock.set 32 9 } }, rfl, rfl,
      by decide +kernel⟩, by decide⟩

theorem witness_validationIsTheTable : exampleBlock.length = 58 := by decide

theorem witness_armMakesItsTests : standby.held = .released ∧
    (standby.cap.channel true).first ≤ (standby.cap.channel true).last := ⟨rfl, by decide +kernel⟩

/-- Each clause: a channel ARMED for SOFT, an IDLE one, and a CAPTURING one with and without a copy. -/
theorem witness_softAndDisarm : standby.held = .released ∧ standby.inst.work = none ∧
    (standby.cap.channel true).state = .idle ∧
    (after (.arm true 6 6 0 7) standby).inst.work = none ∧
    ((after (.arm true 6 6 0 7) standby).cap.channel true).state = .armed ∧
    ((after (.arm true 6 6 0 7) standby).cap.channel true).kind = .soft ∧
    ∀ copies : List Bool, ∃ s : State, s.held = .released ∧ s.inst.work = none ∧
      (s.cap.channel true).state = .capturing ∧ s.cap.copies = copies :=
  ⟨rfl, rfl, rfl, by decide +kernel, by decide +kernel, by decide +kernel, fun copies =>
   ⟨{ standby with cap := { Capture.reset with
        ch1 := { Channel.reset with state := .capturing }, copies := copies } }, rfl, rfl, rfl, rfl⟩⟩

theorem witness_withdrawAndReturn : standby.held = .released ∧ standby.ctl.service = .standby ∧
    (injecting .opened).ctl.service = .injecting ∧ staged.ctl.service = .start ∧
    (after .withdraw standby).held = .released ∧ (after .withdraw standby).ctl.service = .withdrawn :=
  ⟨rfl, rfl, rfl, rfl, by decide +kernel, by decide +kernel⟩

/-- Each clause: the newest record and a numbered one, an empty ring and an absent number, a read at the last
word of the memory, and a read of the block being written. -/
theorem witness_recordAndCaptureReads :
    ((injecting .opened).held = .released ∧ (injecting .opened).ep.selection = 0xFFFF#16 ∧
      (injecting .opened).ep.records.getLast? = some openRecord) ∧
    ((55#16 : BitVec 16) ≠ 0xFFFF#16 ∧
      (injecting .opened).ep.records.find? (fun q => decide (q.number = 55#16)) = some openRecord) ∧
    standby.ep.records = [] ∧ (∀ q ∈ (injecting .opened).ep.records, q.number ≠ 54#16) ∧
    (∃ s : State, s.held = .released ∧ s.cap.block = 39 ∧ s.cap.offset = 383 ∧ s.cap.copies = []) ∧
    ∃ s : State, s.held = .released ∧ s.cap.copies = true :: [] ∧
      ∃ j, j < 16 ∧ (384 * s.cap.block + s.cap.offset + j) % 15360 / 384 = (s.cap.channel true).write :=
  ⟨⟨rfl, rfl, rfl⟩, ⟨by decide, by decide +kernel⟩, rfl, by decide +kernel,
   ⟨{ standby with cap := { Capture.reset with block := 39, offset := 383 } }, rfl, rfl, rfl, rfl⟩,
   { standby with cap := { Capture.reset with block := 39, offset := 383, copies := [true] } }, rfl, rfl, 1,
   by decide, by decide +kernel⟩

/-- Each clause at the greatest length of its item, with every byte declared clocked. -/
theorem witness_readsReturnTheirImages : standby.held = .released ∧
    ∀ n ∈ [2, 4, 8, 12, 16, 32], 1 ≤ n ∧ n ≤ (List.replicate n (0 : Byte)).length :=
  ⟨rfl, by decide⟩

/-- Table 12-2.3: each item that allows a read, with the least and the greatest length. -/
def tableReads : List (Nat × Nat × Nat) := [
  (0x01, 1, 32), (0x02, 1, 2), (0x03, 1, 2), (0x04, 1, 12), (0x08, 1, 16), (0x09, 1, 16), (0x0A, 1, 16),
  (0x0B, 1, 16), (0x0C, 1, 16), (0x0D, 1, 16), (0x0E, 1, 16), (0x0F, 1, 16), (0x10, 1, 2), (0x11, 1, 32),
  (0x18, 1, 32), (0x19, 1, 32), (0x20, 1, 8), (0x21, 1, 8), (0x22, 1, 4), (0x23, 2, 32)]

/-- Table 12-2.3: each item that allows a write, with the least and the greatest length. -/
def tableWrites : List (Nat × Nat × Nat) := [
  (0x02, 2, 2), (0x03, 2, 2), (0x04, 1, 1), (0x10, 2, 2), (0x18, 1, 32), (0x19, 1, 32), (0x1A, 1, 1),
  (0x20, 6, 6), (0x21, 6, 6), (0x22, 4, 4), (0x30, 1, 1)]

/-- Each clause: no byte, a declared byte short; an item the table does not list; bit 5 set, a read of an item
that allows no read, a read of 3 bytes of the even item, a write to an item that allows none, and one of a
length its item does not allow. -/
theorem witness_refusedTransactions : standby.held = .released ∧ ([] : List Byte).length < 2 ∧
    ([0x02, 0x01, 0x00] : List Byte).length < 3 + ((0x01 : Byte).toNat % 32) ∧
    (0x00 : Byte).toNat % 32 + 1 ≤ ([1] : List Byte).length ∧
    (∀ row ∈ tableReads ++ tableWrites, row.1 ≠ 0x05) ∧
    ((0x30, 1, 1) ∈ tableReads ++ tableWrites ∧ (0x20 : Byte).toNat / 32 % 4 ≠ 0) ∧
    (128 ≤ (0x80 : Byte).toNat ∧ ∀ row ∈ tableReads, row.1 ≠ 0x30) ∧
    (128 ≤ (0x82 : Byte).toNat ∧ (0x23, 2, 32) ∈ tableReads ∧ (0x82 : Byte).toNat % 2 = 0) ∧
    ((0x01, 1, 32) ∈ tableReads ∧ (0x00 : Byte).toNat < 128 ∧ ∀ row ∈ tableWrites, row.1 ≠ 0x01) ∧
    ((0x02, 2, 2) ∈ tableWrites ∧ ∀ row ∈ tableWrites, row.1 = 0x02 → ¬ (row.2.1 ≤ 1 ∧ 1 ≤ row.2.2)) := by
  refine ⟨rfl, ?_⟩
  decide

theorem witness_commandsAreTheirTransactions : 1 ≤ ([0] : List Byte).length ∧ ([0] : List Byte).length ≤ 32 ∧
    1 ≤ (List.replicate 32 (0 : Byte)).length ∧ (List.replicate 32 (0 : Byte)).length ≤ 32 := by decide

theorem witness_lockoutAndTheBlockLastUntilAReset : exec .lineIdle { standby with
      ctl := { standby.ctl with service := .lockout } }
    = .next (after .lineIdle { standby with ctl := { standby.ctl with service := .lockout } }) ∧
    standby.held = .released ∧ (after .lineIdle standby).held = .released ∧ standby.ctl.service ≠ .start :=
  ⟨rfl, rfl, by decide +kernel, by decide⟩

theorem witness_pendingEventsStay : exec .lineStuck staged = .next (after .lineStuck staged) ∧
    staged.held = .released ∧ (after .lineStuck staged).held = .released ∧
    (∀ v, Instr.lineStuck ≠ .eventsWrite v) ∧
    (∀ control data, Instr.lineStuck ≠ .registerWriteOther 0x02 control data) ∧
    ∀ rest, Instr.lineStuck ≠ .frameError (0x02 :: rest) :=
  ⟨rfl, rfl, by decide +kernel, fun _ h => (nomatch h), fun _ _ h => (nomatch h), fun _ h => (nomatch h)⟩

/-- An injecting station that hands back, with a sample waiting, meets the controller's invariants. -/
theorem witness_stepKeepsTheController : (injecting .closing).ControllerInv ∧
    (injecting .closing).HandbackInv ∧
    step { injecting .closing with pending := [.sampleEvent silence [] []] }
      = exec (.sampleEvent silence [] []) (injecting .closing) :=
  ⟨by constructor <;> (try unfold Controller.open_) <;> decide +kernel,
   fun _ _ => ⟨.energy, ⟨25000, some .energy, ⟨0, 0, 0⟩⟩, rfl, rfl, rfl⟩, rfl⟩

theorem witness_stepKeepsTheCharger : standby.ChargerInv ∧ standby.CommitInv :=
  ⟨(by decide +kernel : standby.ctl.charge = standby.ctl.service.charges ∧
      standby.en.chgEn = (standby.ctl.charge && decide (standby.tb.vdc < standby.port.params.vfull))),
   by constructor <;> decide +kernel⟩

theorem witness_stepKeepsTheShareAndTheRing : standby.ShareInv ∧ (injecting .opened).RingInv :=
  ⟨by constructor <;> decide +kernel,
   { length := by decide +kernel, numbers := by decide +kernel, current := by decide +kernel }⟩

theorem witness_stepKeepsTheLine : sending.LineInv where
  tec := by decide +kernel
  seq := by decide +kernel
  quiet := fun _ _ _ => .inl rfl
  back := by decide +kernel
  silent := by decide +kernel
  mute := by decide +kernel
  stuck := by decide +kernel
  idle := by decide +kernel
  sending := fun _ _ _ => rfl
  run := fun _ h => (nomatch h)

theorem witness_stepKeepsTheBuffersAndFactors : standby.CaptureInv ∧ standby.FoldBackInv :=
  ⟨by constructor <;> decide +kernel, fun p => by cases p <;> decide +kernel⟩

theorem witness_stepKeepsTheMeasurement : standby.TimebaseInv ∧ standby.TemplateInv ∧ standby.MetricInv := by
  refine ⟨⟨fun p => ?_, ?_, ?_, ?_, ?_⟩, ⟨?_, ?_, ?_, ?_⟩, ⟨fun p => ?_, fun p => ?_, fun p => ?_,
    fun h => absurd h (by decide +kernel)⟩⟩
  all_goals first | decide +kernel | (cases p <;> decide +kernel)

theorem witness_finalCommandIsBounded : 256 ≤ 256 ∧ 64 ≤ 64 ∧ 64 ≤ 256 := by decide

/-- Each clause: a crossing at a code of 0, and none with the recogniser disarmed or a code below 0. -/
theorem witness_crossingLiesBetweenTheSamples : ∃ t : Timebase, t.prevCode < 0 ∧ t.armed = true ∧ t.x.a = 0 :=
  ⟨{ Timebase.reset with armed := true, prevCode := -600 }, by decide, rfl, rfl⟩

end Sys2Proof.Tests
end

section
/-! SUPPORT. The envelope table (R90): what one segment contributes to the envelope fraction, and the
statement about the first segment that ends after e. -/

namespace Sys2Proof.Machine

/-- The last segment gives its fraction whatever its end cycle. -/
@[simp] theorem envelopeFraction_singleton (seg : Nat × Nat) (e : Nat) :
    envelopeFraction [seg] e = seg.2 := rfl

theorem envelopeFraction_cons_of_lt {seg : Nat × Nat} {e : Nat} (hlt : e < seg.1)
    (rest : List (Nat × Nat)) : envelopeFraction (seg :: rest) e = seg.2 := by
  cases rest with
  | nil => rfl
  | cons next rest => exact if_pos hlt

theorem envelopeFraction_cons_of_le {seg : Nat × Nat} {e : Nat} (hle : seg.1 ≤ e)
    {rest : List (Nat × Nat)} (hrest : rest ≠ []) :
    envelopeFraction (seg :: rest) e = envelopeFraction rest e := by
  cases rest with
  | nil => exact absurd rfl hrest
  | cons next rest => exact if_neg (Nat.not_lt.mpr hle)

/-- Segments that have ended by e are passed over, as long as one follows them. -/
theorem envelopeFraction_append_of_le {before rest : List (Nat × Nat)} {e : Nat}
    (hbefore : ∀ seg ∈ before, seg.1 ≤ e) (hrest : rest ≠ []) :
    envelopeFraction (before ++ rest) e = envelopeFraction rest e := by
  induction before with
  | nil => rfl
  | cons seg before ih =>
    obtain ⟨hseg, htail⟩ := List.forall_mem_cons.mp hbefore
    have hne : before ++ rest ≠ [] := List.append_ne_nil_of_right_ne_nil before hrest
    calc envelopeFraction (seg :: (before ++ rest)) e
      _ = envelopeFraction (before ++ rest) e := envelopeFraction_cons_of_le hseg hne
      _ = envelopeFraction rest e := ih htail

/-- Settles O17: the segments before are passed over, and the segment reached either ends after e or is
the last of the table. -/
theorem envelopeFractionOfASegment : Obligations.EnvelopeFractionOfASegment := by
  intro before after e end_ f hbefore
  constructor
  · intro hlt
    rw [envelopeFraction_append_of_le hbefore (List.cons_ne_nil _ _), envelopeFraction_cons_of_lt hlt]
  · intro _ _
    rw [envelopeFraction_append_of_le hbefore (List.cons_ne_nil _ _), envelopeFraction_singleton]

end Sys2Proof.Machine
end

section
/-! SUPPORT. The ARM action (R142): the trigger kind a code names, the result of the five tests in the
rule's order, what the action leaves in the channels, and the transaction that carries it. -/

namespace Sys2Proof.Machine

/-! ## The five tests -/

/-- The codes that name no kind are those outside 1 to 6. -/
theorem TriggerKind.ofCode_eq_none_iff (n : Nat) : ofCode n = Option.none ↔ n < 1 ∨ 6 < n :=
  match n with
  | 0 => iff_of_true rfl (.inl Nat.one_pos)
  | 1 | 2 | 3 | 4 | 5 | 6 => by decide
  | m + 7 => iff_of_true rfl (.inr (by omega))

theorem TriggerKind.code_of_ofCode {n : Nat} {k : TriggerKind} (h : ofCode n = some k) : k.code = n := by
  unfold TriggerKind.ofCode at h
  split at h <;> cases h <;> rfl

theorem regionsOverlap_iff (f1 l1 f2 l2 : Nat) : regionsOverlap f1 l1 f2 l2 = true ↔ f1 ≤ l2 ∧ f2 ≤ l1 := by
  simp [regionsOverlap]

/-- The result R142 gives an ARM action: the first test that fails decides. -/
def State.armResult (s : State) (one : Bool) (kind count first last : Nat) : Result :=
  if (s.cap.channel one).state = .capturing then .busy
  else if kind < 1 ∨ 6 < kind then .badArgument
  else if count < 1 ∨ 40 < count then .badArgument
  else if 39 < first ∨ 39 < last ∨ last < first then .badArgument
  else if (s.cap.channel (!one)).state ≠ .idle ∧ first ≤ (s.cap.channel (!one)).last ∧
      (s.cap.channel (!one)).first ≤ last then .badArgument
  else .ok

/-- The capture channels once one of them is armed (R142). -/
def Capture.arm (c : Capture) (one : Bool) (k : TriggerKind) (count first last : Nat) : Capture :=
  c.modChannel one fun ch => { ch with
    state := .armed, kind := k, count := count, first := first, last := last, write := first
    status := .none, disarm := false }

/-- Arming a channel changes no byte of the memory and asks for no copy. -/
theorem Capture.arm_frame (c : Capture) (one : Bool) (k : TriggerKind) (count first last : Nat) :
    (c.arm one k count first last).memory = c.memory ∧ (c.arm one k count first last).copies = c.copies := by
  cases one <;> exact ⟨rfl, rfl⟩

/-! ## The action -/

/-- The five tests of the action give the result of R142. -/
theorem State.armChannel_result (s : State) (one : Bool) (kind count first last : Nat) :
    (s.armChannel one kind count first last).1 = s.armResult one kind count first last := by
  have hcount : (!inRange 1 40 count) = true ↔ count < 1 ∨ 40 < count := by
    simp only [inRange, Bool.not_eq_true', ← Bool.decide_and, decide_eq_false_iff_not]
    omega
  have hregion : (!(decide (first < Config.blocks) && decide (last < Config.blocks) &&
      decide (first ≤ last))) = true ↔ 39 < first ∨ 39 < last ∨ last < first := by
    simp only [Bool.not_eq_true', ← Bool.decide_and, decide_eq_false_iff_not]
    unfold Config.blocks
    omega
  have hshared : (decide ((s.cap.channel (!one)).state ≠ .idle) && regionsOverlap first last
        (s.cap.channel (!one)).first (s.cap.channel (!one)).last) = true ↔
      (s.cap.channel (!one)).state ≠ .idle ∧ first ≤ (s.cap.channel (!one)).last ∧
        (s.cap.channel (!one)).first ≤ last := by
    rw [Bool.and_eq_true, decide_eq_true_iff, regionsOverlap_iff]
  simp only [State.armChannel, State.armResult, hcount, hregion, hshared,
    ← TriggerKind.ofCode_eq_none_iff]
  by_cases hbusy : (s.cap.channel one).state = .capturing
  · simp only [if_pos hbusy]
  · cases hkind : TriggerKind.ofCode kind with
    | none => simp [hbusy]
    | some k => simp only [if_neg hbusy, reduceCtorEq, if_false]; split_ifs <;> rfl

/-- What an ARM action can do: refuse and leave the state as it is, or arm the channel for the kind its
code names. -/
theorem State.armChannel_cases (s : State) (one : Bool) (kind count first last : Nat) :
    (∃ r, r ≠ .ok ∧ s.armChannel one kind count first last = (r, s)) ∨
    ∃ k : TriggerKind, k.code = kind ∧
      s.armChannel one kind count first last = (.ok, { s with cap := s.cap.arm one k count first last }) := by
  unfold State.armChannel
  dsimp only
  split
  · exact .inl ⟨.busy, by decide, rfl⟩
  · split
    · exact .inl ⟨.badArgument, by decide, rfl⟩
    · rename_i k hkind
      split_ifs
      · exact .inl ⟨.badArgument, by decide, rfl⟩
      · exact .inl ⟨.badArgument, by decide, rfl⟩
      · exact .inl ⟨.badArgument, by decide, rfl⟩
      · exact .inr ⟨k, TriggerKind.code_of_ofCode hkind, rfl⟩

/-! ## The transaction -/

/-- A write taken out of reset ends its transaction with its result, and returns zeros for its data. -/
theorem State.serveWrite_released {s : State} (hheld : s.held = .released) (n : Nat)
    (f : State → Result × State) :
    s.serveWrite n f = { (f s).2 with
      port := s.portAfter (f s).2.port (f s).1 (List.replicate n 0) } := if_pos hheld

/-- ARM out of reset: its action, and the end of the transaction of six data bytes. -/
theorem exec_arm_released {s : State} (hheld : s.held = .released) (one : Bool) (kind : Byte)
    (count : BitVec 16) (first last : Byte) {r : Result} {u : State}
    (hact : s.armChannel one kind.toNat count.toNat first.toNat last.toNat = (r, u)) :
    exec (.arm one kind count first last) s =
      .next { u with port := s.portAfter u.port r [0, 0, 0, 0, 0, 0] } := by
  calc exec (.arm one kind count first last) s
    _ = .next (s.serveWrite 6 fun t =>
          t.armChannel one kind.toNat count.toNat first.toNat last.toNat) := rfl
    _ = .next { u with port := s.portAfter u.port r [0, 0, 0, 0, 0, 0] } := by
          rw [State.serveWrite_released hheld, hact]; rfl

/-- Settles O43: the action gives the result of the rule's tests; where it refuses the channels stay, and
where it arms it is with a kind the written code names. -/
theorem armMakesItsTests : Obligations.ArmMakesItsTests := by
  intro s one kind count first last hheld other result _
  have hresult : (s.armChannel one kind.toNat count.toNat first.toNat last.toNat).1 = result :=
    s.armChannel_result one _ _ _ _
  obtain ⟨r, hrefused, hact⟩ | ⟨k, hcode, hact⟩ :=
    s.armChannel_cases one kind.toNat count.toNat first.toNat last.toNat
  · have hr : r = result := by rw [← hresult, hact]
    subst hr
    exact ⟨_, exec_arm_released hheld one kind count first last hact, rfl, fun _ => rfl,
      fun hok => absurd hok hrefused⟩
  · have hr : .ok = result := by rw [← hresult, hact]
    have hself : (s.cap.arm one k count.toNat first.toNat last.toNat).channel one = _ :=
      Capture.channel_modChannel_self s.cap one _
    obtain ⟨hmemory, hcopies⟩ := s.cap.arm_frame one k count.toNat first.toNat last.toNat
    refine ⟨_, exec_arm_released hheld one kind count first last hact, ?_, fun h => absurd hr.symm h,
      fun _ => ⟨?_, ?_, Capture.channel_modChannel_not s.cap one _, hmemory, hcopies⟩⟩
    · rw [← hr]
    · dsimp only; rw [hself]
    · dsimp only; rw [hself]; exact hcode

end Sys2Proof.Machine
end
